-- ==== Sys2Proof/Word.lean ====
section
/-! DEFINITION. The words and identifiers of the FG44: the manual's numbered things, each at its own width. -/

namespace Sys2Proof

/-- A byte of a record in host memory. -/
abbrev Byte := BitVec 8

/-- Device time, a 32-bit count of microseconds (R164). -/
abbrev Time := BitVec 32

/-- The 16-bit key of a frame (R1). -/
abbrev Key := BitVec 16

/-- The sequence of a frame, 0-15 (R1). -/
abbrev Seq := BitVec 4

/-- A host byte address, 64 bits (R166). -/
abbrev HostAddress := BitVec 64

/-- A field link L0-L3; also the send queue SQ0-SQ3 bound to it (R133). -/
abbrev LinkId := Fin 4

/-- A queue number 0-13 as KICK numbers them (R159): 0 CQ, 1-4 SQ0-SQ3, 5-12 DQ0-DQ7, 13 STQ. -/
abbrev QueueId := Fin 14

/-- A delivery queue DQ0-DQ7. -/
abbrev DeliveryId := Fin 8

/-- A mailbox 0-127 (R85). -/
abbrev MailboxId := Fin 128

/-- A schedule entry 0-31 (R117). -/
abbrev ScheduleId := Fin 32

/-- A twin group 0-3 (R75). -/
abbrev GroupId := Fin 4

/-- A rule index 0-255 (R51). -/
abbrev RuleIndex := Fin 256

/-- A slot number 0-383 of the frame store (R37). -/
abbrev SlotId := Fin 384

/-- A subset of L0-L3, bit n for Ln (chapter 12). -/
abbrev LinkSet := BitVec 4

/-- A subset of DQ0-DQ7, bit n for DQn (chapter 12). -/
abbrev DeliverySet := BitVec 8

/-- Samples of a link's line, one for each bit-time, oldest first: `true` is recessive (1), `false` is dominant (0)
(the head of chapter 1). -/
abbrev Line := List Bool

end Sys2Proof
end

