-- ==== Sys2Proof/Config.lean ====
section
/-! DEFINITION. What the manual fixes for every FG44: identification, capacities and weights.
The manual leaves no value of a result open, so there is no free value here (INVENTORY.md, "What the manual leaves open"). -/

namespace Sys2Proof.Config

/-- The constant of the IDENT register (R159). -/
def ident : BitVec 32 := 0x0F440100#32

/-- The most frames the classification input list holds (R53). -/
def inputCapacity : Nat := 16

/-- The most entries of an egress set: pending, in flight and reserved place together (R97). -/
def egressCapacity : Nat := 48

/-- The most entries of the twin table (R76). -/
def twinCapacity : Nat := 64

/-- The most entries of one delivery backlog (R134). -/
def backlogCapacity : Nat := 8

/-- The most notices in the notice list (R137). -/
def noticeCapacity : Nat := 16

/-- The most mailboxes one classification stores into (R60). -/
def mailboxesPerClassification : Nat := 4

/-- The host reserve after reset (R37, R46). -/
def resetReserve : Nat := 16

/-- The greatest host reserve (R46). -/
def maxReserve : Nat := 128

/-- The score at which CAUTION begins (R24). -/
def cautionScore : Nat := 48

/-- The score at which MUTED begins (R24). -/
def mutedScore : Nat := 96

/-- The score that isolates an ONLINE link (R25). -/
def isolationScore : Nat := 160

/-- The greatest fault score (R17). -/
def maxScore : Nat := 255

/-- The probation count that completes probation (R27, R28). -/
def probationGoal : Nat := 64

/-- Consecutive recessive bit-times between quiet intervals (R6). -/
def quietBits : Nat := 32

/-- Consecutive dominant bit-times that begin a stuck episode (R15). -/
def stuckBits : Nat := 256

/-- Recessive bit-times of the intermission after an end delimiter, at the last of which the bus is idle (R5). -/
def intermissionBits : Nat := 3

/-- Recessive bit-times after an error, at the last of which the bus is idle (R5). -/
def errorIdleBits : Nat := 10

/-- The length of a dominant run at which a frame's end is taken whatever follows (R7, R8). -/
def longRunBits : Nat := 32

/-- The shortest dominant run that is an abort mark (R7). -/
def abortRunBits : Nat := 10

/-- The bit-times of an abort mark that the device drives (R7). -/
def abortMarkBits : Nat := 12

/-- Microseconds in one unit of a schedule entry's period and phase (R117). -/
def cyclicUnit : Nat := 100

/-- The limit of the 16-bit saturating counters (R81, R121, R137). -/
def counterLimit : Nat := 65535

/-- The limit of "records counted" (R138). -/
def coalesceLimit : Nat := 4095

/-- The limit of a mailbox's overwrite count (R85). -/
def overwriteLimit : Nat := 255

end Sys2Proof.Config
end

