-- ==== Sys2Proof/Syntax.lean ====
section
/-! DEFINITION. The happenings of the FG44: one constructor of `Instr` for each row of spec/opcode_table.json, with the
operands that come from outside the block or that say which thing the happening concerns.
Operands that the device itself holds (a slot, a key, a record it is writing) are not repeated here: they are State. -/

namespace Sys2Proof

/-- How a slot was filled (R37, R45). -/
inductive FrameOrigin where
  | received | host | loopback | cyclic
  deriving DecidableEq, Repr

/-- The mode a JOINING link will enter (R17). -/
inductive JoinTarget where
  | online | listen
  deriving DecidableEq, Repr

/-- The modes LINK_MODE may request (R150). -/
inductive RequestedMode where
  | offline | online | listen | suspended
  deriving DecidableEq, Repr

/-- recovery_policy of a link configuration (R33). -/
inductive RecoveryPolicy where
  | auto | hold | manual
  deriving DecidableEq, Repr

/-- isolate_action of a link configuration (R33). -/
inductive IsolateAction where
  | hold | flush
  deriving DecidableEq, Repr

/-- report_mask of a link configuration: which link notices are posted (R33, R34). -/
structure ReportMask where
  linkState : Bool
  linkHealth : Bool
  stuck : Bool
  deriving DecidableEq, Repr

/-- The seven fields of a link configuration (R33). -/
structure LinkConfig where
  /-- 0 (unconfigured) or 40-4000 reference-clock periods. -/
  bitTime : Nat
  recoveryPolicy : RecoveryPolicy
  isolateAction : IsolateAction
  reportMask : ReportMask
  unmatchedQueue : Option DeliveryId
  /-- 0-15. -/
  forwardRetries : Nat
  /-- 0 (none) or 1-16,777,215 microseconds. -/
  forwardLifetime : Nat
  deriving DecidableEq, Repr

/-- The origin filter of a routing rule (R52). -/
inductive OriginFilter where
  | received | loopback | both
  deriving DecidableEq, Repr

/-- A routing rule (R52). -/
structure Rule where
  ingress : LinkSet
  origin : OriginFilter
  keyValue : Key
  keyMask : Key
  lengthMin : Nat
  lengthMax : Nat
  links : LinkSet
  rewriteKey : Option Key
  delivery : DeliverySet
  tag : BitVec 16
  mailbox : Option MailboxId
  continueWalk : Bool
  twin : Option GroupId
  deriving DecidableEq, Repr

/-- The bank choice of RULE_READ (R73). -/
inductive BankChoice where
  | active | staging
  deriving DecidableEq, Repr

/-- The overrun policy of a schedule entry (R117). -/
inductive OverrunPolicy where
  | skip | replace
  deriving DecidableEq, Repr

/-- The arguments of CYCLIC_SET after the entry (R118, R157). -/
structure CyclicArgs where
  link : LinkId
  key : Key
  /-- 1-65,535 units of 100 microseconds. -/
  period : Nat
  /-- 0 to period - 1 units of 100 microseconds. -/
  phase : Nat
  policy : OverrunPolicy
  /-- 0-15. -/
  budget : Nat
  /-- payload length 0-64. -/
  length : Nat
  address : HostAddress
  deriving DecidableEq, Repr

/-- The 28 commands with their arguments, as the command unit hands them to their owners (R145, chapter 12.5). -/
inductive Command where
  | nop
  | queueEnable (q : QueueId)
  | queueDisable (q : QueueId)
  | queueStatus (q : QueueId)
  | storeReserve (reserve : Nat)
  | linkConfig (l : LinkId) (cfg : LinkConfig)
  | linkMode (l : LinkId) (mode : RequestedMode)
  | linkRecover (l : LinkId)
  | linkForce (l : LinkId)
  | linkStatus (l : LinkId) (address : HostAddress) (clear : Bool)
  | sendCancel (l : LinkId) (tag : BitVec 32)
  | egressFlush (l : LinkId)
  | ruleWrite (i : RuleIndex) (rule : Rule)
  | ruleCount (count : Nat)
  | ruleCopy
  | tableSwap
  | ruleRead (bank : BankChoice) (i : RuleIndex) (address : HostAddress)
  | twinGroup (g : GroupId) (links : LinkSet) (window : Nat)
  | twinFlush (g : GroupId)
  | mailboxConfig (m : MailboxId) (notify : Bool)
  | mailboxRead (m : MailboxId) (address : HostAddress)
  | mailboxClear (m : MailboxId)
  | cyclicSet (e : ScheduleId) (args : CyclicArgs)
  | cyclicStart (e : ScheduleId)
  | cyclicStop (e : ScheduleId)
  | cyclicUpdate (e : ScheduleId) (length : Nat) (address : HostAddress)
  | cyclicClear (e : ScheduleId)
  | cyclicRead (e : ScheduleId) (address : HostAddress) (clear : Bool)
  deriving DecidableEq, Repr

/-- The eight registers of the register window (R159). -/
inductive Register where
  | ident | control | state | cbaLo | cbaHi | kick | irq | time
  deriving DecidableEq, Repr

/-- Which half of the control-block address a CBA write names (R159). -/
inductive CbaHalf where
  | lo | hi
  deriving DecidableEq, Repr

/-- The kinds of host-memory access the device makes; one of each kind is under way at most (R130, R132, R133, R134,
R136, R140, R141). -/
inductive HostAccess where
  /-- the control-block reads of ATTACHING (R141) -/
  | controlBlock
  /-- an index read of a queue's host word (R130) -/
  | indexRead (q : QueueId)
  /-- the read of a command record (R132) -/
  | commandRecord
  /-- the write of the CQ device word (R132) -/
  | cqDeviceWord
  /-- the read of a send record (R133) -/
  | sendRecord (l : LinkId)
  /-- the write of an SQ device word (R133) -/
  | sqDeviceWord (l : LinkId)
  /-- the write of a delivery record (R134) -/
  | deliveryRecord (d : DeliveryId)
  /-- the write of a DQ device word (R134) -/
  | dqDeviceWord (d : DeliveryId)
  /-- the write of a status record (R136) -/
  | statusRecord
  /-- the write of the STQ device word (R136) -/
  | stqDeviceWord
  /-- the access of a command's own buffer (R132, R139) -/
  | commandBuffer
  deriving DecidableEq, Repr

/-- Who asks for a status credit (R131). -/
inductive Requester where
  | commandUnit
  | fetcher (l : LinkId)
  deriving DecidableEq, Repr

/-- Who posts notices (R137). -/
inductive NoticeSource where
  | link (l : LinkId)
  | mailboxTable
  | deliveryWriter (d : DeliveryId)
  | hostInterface
  deriving DecidableEq, Repr

/-- How a host write ends (R36, R73, R89, R125). -/
inductive AccessEnd where
  | done | fault
  deriving DecidableEq, Repr

/-- How a host read ends: with the bytes read, or in a fault (R139, R140). -/
inductive BytesRead where
  | data (bytes : List Byte)
  | fault
  deriving DecidableEq, Repr

/-- How the control-block reads of ATTACHING end (R141): the 64-byte header and the 16-byte descriptors of CQ and STQ,
or a fault of any of the reads. -/
inductive AttachRead where
  | data (header cq stq : List Byte)
  | fault
  deriving DecidableEq, Repr

/-- How an attempt ends, as the link controller reports it (R10). -/
inductive AttemptOutcome where
  | acked | unacked | echo | abortSeen
  deriving DecidableEq, Repr

/-- The kinds of reception error (R8). -/
inductive ReceptionError where
  | length | check | form | abortSeen
  deriving DecidableEq, Repr

/-- The happenings: one constructor for each row of spec/opcode_table.json, in the table's order. -/
inductive Instr where
  /-- POWER_ON_RESET (R165) -/
  | powerOnReset
  /-- RESET (R165): a CONTROL write with RESET alone, whatever enables it carries -/
  | reset (enables : BitVec 4)
  /-- START (R141): a CONTROL write with START alone and these enables (bits 8-11) -/
  | start (enables : BitVec 4)
  /-- DETACH (R142): a CONTROL write with DETACH alone and these enables -/
  | detach (enables : BitVec 4)
  /-- CONTROL_ENABLES_WRITE (R160): a CONTROL write with no action bit or with two or more -/
  | controlEnablesWrite (enables : BitVec 4) (actions : BitVec 3)
  /-- CBA_WRITE (R159) -/
  | cbaWrite (half : CbaHalf) (value : BitVec 32)
  /-- KICK (R162): the value written to KICK -/
  | kick (value : BitVec 32)
  /-- IRQ_CLEAR (R163): the value written to IRQ -/
  | irqClear (value : BitVec 32)
  /-- REGISTER_WRITE (R159): any 32-bit value written to any register of the window -/
  | registerWrite (reg : Register) (value : BitVec 32)
  /-- ATTACH_READ_END (R141) -/
  | attachReadEnd (result : AttachRead)
  /-- HOST_ACCESS_END (R142): the end of an access whose effect is discarded -/
  | hostAccessEnd (access : HostAccess)
  /-- QUIET_INTERVAL (R6) -/
  | quietInterval (l : LinkId)
  /-- STUCK_EPISODE_START (R15) -/
  | stuckEpisodeStart (l : LinkId)
  /-- STUCK_EPISODE_END (R15) -/
  | stuckEpisodeEnd (l : LinkId)
  /-- RECEPTION_END (R8): the samples since the reception's opening, up to the bit-time at which the end is taken -/
  | receptionEnd (l : LinkId) (line : Line)
  /-- CONTENTION_OPPORTUNITY (R101) -/
  | contentionOpportunity (l : LinkId)
  /-- CONTENTION_LOST (R102): the samples from the start mark on, its own first, up to the bit-time at which the device sent
  recessive and read dominant -/
  | contentionLost (l : LinkId) (line : Line)
  /-- ATTEMPT_END (R103): the samples from the start mark on, its own first, up to the bit-time at which the end is taken -/
  | attemptEnd (l : LinkId) (line : Line)
  /-- RECEPTION_SLOT_REQUEST (R42), for the oldest frame the link controller has not yet placed -/
  | receptionSlotRequest (l : LinkId)
  /-- INPUT_LIST_APPEND (R53), for the oldest slot the link controller has not yet appended -/
  | inputListAppend (l : LinkId)
  /-- SEND_FETCH_SLOT_REQUEST (R43), by the send fetcher of SQn -/
  | sendFetchSlotRequest (l : LinkId)
  /-- CLASSIFICATION (R55) -/
  | classification
  /-- CLASSIFICATION_END (R64) -/
  | classificationEnd
  /-- TWIN_CHECK (R77) -/
  | twinCheck
  /-- TWIN_EXPIRY (R80), of the entry with this group, key and sequence -/
  | twinExpiry (g : GroupId) (key : Key) (seq : Seq)
  /-- MAILBOX_STORE (R86) -/
  | mailboxStore (m : MailboxId)
  /-- FORWARD_ADMISSION (R99), at the egress scheduler of the destination link -/
  | forwardAdmission (l : LinkId)
  /-- HOST_ADMISSION (R98), of the record the send fetcher of SQn has handed -/
  | hostAdmission (l : LinkId)
  /-- EMISSION_REQUEST (R100), of the oldest request of this schedule entry not yet taken -/
  | emissionRequest (e : ScheduleId)
  /-- PLACE_REQUEST (R97), by the send fetcher of SQn -/
  | placeRequest (l : LinkId)
  /-- DEADLINE_EXPIRY (R107), of the pending entry with this admission number -/
  | deadlineExpiry (l : LinkId) (admission : BitVec 48)
  /-- EMISSION (R120) -/
  | emission (e : ScheduleId)
  /-- EMISSION_ANSWER (R121) -/
  | emissionAnswer (e : ScheduleId)
  /-- COPY_END (R121) -/
  | copyEnd (e : ScheduleId)
  /-- CREDIT_REQUEST (R131) -/
  | creditRequest (r : Requester)
  /-- INDEX_READ_END (R130): the four bytes read from the queue's host word (section 12.1) -/
  | indexReadEnd (q : QueueId) (word : List Byte)
  /-- COMMAND_TAKEN (R132): the 64-byte command record read -/
  | commandTaken (record : List Byte)
  /-- CQ_DEVICE_WORD_WRITE_END (R132) -/
  | cqDeviceWordWriteEnd
  /-- SEND_RECORD_TAKEN (R133): the 96-byte send record read -/
  | sendRecordTaken (l : LinkId) (record : List Byte)
  /-- SQ_DEVICE_WORD_WRITE_END (R133) -/
  | sqDeviceWordWriteEnd (l : LinkId)
  /-- BACKLOG_APPEND (R134) -/
  | backlogAppend (d : DeliveryId)
  /-- DELIVERY_WRITE_START (R134) -/
  | deliveryWriteStart (d : DeliveryId)
  /-- DELIVERY_RECORD_WRITE_END (R134) -/
  | deliveryRecordWriteEnd (d : DeliveryId)
  /-- DQ_DEVICE_WORD_WRITE_END (R134) -/
  | dqDeviceWordWriteEnd (d : DeliveryId)
  /-- STATUS_WRITE_START (R136) -/
  | statusWriteStart
  /-- STATUS_RECORD_WRITE_END (R136) -/
  | statusRecordWriteEnd
  /-- STQ_DEVICE_WORD_WRITE_END (R136) -/
  | stqDeviceWordWriteEnd
  /-- NOTICE_POST (R137): the host interface takes the oldest notice posted by this source -/
  | noticePost (source : NoticeSource)
  /-- HOLDOFF_EXPIRY (R138) -/
  | holdoffExpiry (q : QueueId)
  /-- HOST_MEMORY_FAULT (R139): this access ends in a fault -/
  | hostMemoryFault (access : HostAccess)
  /-- NOP (R147): the taking of a NOP record with this tag -/
  | nop (tag : BitVec 32)
  /-- QUEUE_ENABLE (R140) -/
  | queueEnable (q : QueueId)
  /-- QUEUE_ENABLE_DESCRIPTOR_READ_END (R140): the 16-byte descriptor read, or a fault -/
  | queueEnableDescriptorReadEnd (result : BytesRead)
  /-- QUEUE_DISABLE (R140) -/
  | queueDisable (q : QueueId)
  /-- QUEUE_STATUS (R135) -/
  | queueStatus (q : QueueId)
  /-- STORE_RESERVE (R46) -/
  | storeReserve (reserve : Nat)
  /-- LINK_CONFIG (R32) -/
  | linkConfig (l : LinkId) (cfg : LinkConfig)
  /-- LINK_MODE (R19) -/
  | linkMode (l : LinkId) (mode : RequestedMode)
  /-- LINK_RECOVER (R29) -/
  | linkRecover (l : LinkId)
  /-- LINK_FORCE (R30) -/
  | linkForce (l : LinkId)
  /-- LINK_STATUS (R36) -/
  | linkStatus (l : LinkId) (address : HostAddress) (clear : Bool)
  /-- LINK_STATUS_WRITE_END (R36) -/
  | linkStatusWriteEnd (result : AccessEnd)
  /-- SEND_CANCEL (R108) -/
  | sendCancel (l : LinkId) (tag : BitVec 32)
  /-- EGRESS_FLUSH (R109) -/
  | egressFlush (l : LinkId)
  /-- RULE_WRITE (R69) -/
  | ruleWrite (i : RuleIndex) (rule : Rule)
  /-- RULE_COUNT (R70) -/
  | ruleCount (count : Nat)
  /-- RULE_COPY (R71) -/
  | ruleCopy
  /-- TABLE_SWAP (R72) -/
  | tableSwap
  /-- RULE_READ (R73) -/
  | ruleRead (bank : BankChoice) (i : RuleIndex) (address : HostAddress)
  /-- RULE_READ_WRITE_END (R73) -/
  | ruleReadWriteEnd (result : AccessEnd)
  /-- TWIN_GROUP (R82) -/
  | twinGroup (g : GroupId) (links : LinkSet) (window : Nat)
  /-- TWIN_FLUSH (R83) -/
  | twinFlush (g : GroupId)
  /-- MAILBOX_CONFIG (R92) -/
  | mailboxConfig (m : MailboxId) (notify : Bool)
  /-- MAILBOX_READ (R88) -/
  | mailboxRead (m : MailboxId) (address : HostAddress)
  /-- MAILBOX_READ_WRITE_END (R89) -/
  | mailboxReadWriteEnd (result : AccessEnd)
  /-- MAILBOX_CLEAR (R91) -/
  | mailboxClear (m : MailboxId)
  /-- CYCLIC_SET (R118) -/
  | cyclicSet (e : ScheduleId) (args : CyclicArgs)
  /-- CYCLIC_SET_READ_END (R118): the payload read -/
  | cyclicSetReadEnd (payload : List Byte)
  /-- CYCLIC_START (R119) -/
  | cyclicStart (e : ScheduleId)
  /-- CYCLIC_STOP (R119) -/
  | cyclicStop (e : ScheduleId)
  /-- CYCLIC_UPDATE (R123) -/
  | cyclicUpdate (e : ScheduleId) (length : Nat) (address : HostAddress)
  /-- CYCLIC_UPDATE_APPLY (R123): the payload read -/
  | cyclicUpdateApply (payload : List Byte)
  /-- CYCLIC_CLEAR (R124) -/
  | cyclicClear (e : ScheduleId)
  /-- CYCLIC_READ (R125) -/
  | cyclicRead (e : ScheduleId) (address : HostAddress) (clear : Bool)
  /-- CYCLIC_READ_WRITE_END (R125) -/
  | cyclicReadWriteEnd (result : AccessEnd)
  /-- RECEPTION_BEGIN (R8) -/
  | receptionBegin (l : LinkId)
  deriving DecidableEq, Repr

end Sys2Proof
end

