-- ==== Sys2Proof/Decode.lean ====
section
/-! DEFINITION. The table's bits. No row of spec/opcode_table.json has bits (every "fields" is empty): a happening is not a word. The
records that are read from host memory are decoded in Sys2Proof/Machine/Operands.lean. -/

namespace Sys2Proof

/-- The happening that a word of so many bits spells by the table: none, as no row of the table has bits. -/
def decodeTableWord (_nbits _w : Nat) : Option Instr := none

end Sys2Proof
end

