-- ==== Sys2Proof/WellFormed.lean ====
section
/-! DEFINITION. Which happenings are well formed: every operand lies in the range the manual gives it.
Most ranges are in the operand types already (link, queue, slot and rule numbers); what is left is checked here. -/

namespace Sys2Proof

/-- The ranges of R33, in the order of R149. -/
def LinkConfig.wellFormed (c : LinkConfig) : Bool :=
  (c.bitTime == 0 || (40 ≤ c.bitTime && c.bitTime ≤ 4000)) && c.forwardRetries ≤ 15 && c.forwardLifetime ≤ 16777215

/-- The conditions of R52 that the types do not already give. -/
def Rule.wellFormed (r : Rule) : Bool :=
  r.lengthMax ≤ 64 && r.lengthMin ≤ r.lengthMax

/-- The ranges of R157, checks 3 to 7. -/
def CyclicArgs.wellFormed (a : CyclicArgs) : Bool :=
  1 ≤ a.period && a.period ≤ 65535 && a.phase < a.period && a.budget ≤ 15 && a.length ≤ 64

/-- The number of members of a link set. -/
def LinkSet.members (s : LinkSet) : Nat :=
  (if s.getLsbD 0 then 1 else 0) + (if s.getLsbD 1 then 1 else 0) + (if s.getLsbD 2 then 1 else 0)
    + (if s.getLsbD 3 then 1 else 0)

/-- The checks of R155 on a link set and a window: not exactly one member, and a window of 10-1,000,000 microseconds
unless the set is empty. -/
def twinGroupWellFormed (links : LinkSet) (window : Nat) : Bool :=
  links.members != 1 && (links == 0#4 || (10 ≤ window && window ≤ 1000000))

/-- A queue QUEUE_ENABLE and QUEUE_DISABLE may name: neither CQ nor STQ (R140). -/
def QueueId.hostMayEnable (q : QueueId) : Bool := q.val != 0 && q.val != 13

/-- Check 3 of R145 for a command: every argument lies within its range. -/
def Command.wellFormed : Command → Bool
  | .queueEnable q => q.hostMayEnable
  | .queueDisable q => q.hostMayEnable
  | .storeReserve n => n ≤ Config.maxReserve
  | .linkConfig _ cfg => cfg.wellFormed
  | .ruleWrite _ r => r.wellFormed
  | .ruleCount n => n ≤ 256
  | .twinGroup _ links window => twinGroupWellFormed links window
  | .cyclicSet _ a => a.wellFormed
  | .cyclicUpdate _ n _ => n ≤ 64
  | .nop => true
  | .queueStatus _ => true
  | .linkMode _ _ => true
  | .linkRecover _ => true
  | .linkForce _ => true
  | .linkStatus _ _ _ => true
  | .sendCancel _ _ => true
  | .egressFlush _ => true
  | .ruleCopy => true
  | .tableSwap => true
  | .ruleRead _ _ _ => true
  | .twinFlush _ => true
  | .mailboxConfig _ _ => true
  | .mailboxRead _ _ => true
  | .mailboxClear _ => true
  | .cyclicStart _ => true
  | .cyclicStop _ => true
  | .cyclicClear _ => true
  | .cyclicRead _ _ _ => true

/-- The command a row of the table stands for, if it is the taking of a command by its owner. NOP is not among them: it
is completed in the happening in which it is taken (R147). -/
def Instr.command? : Instr → Option Command
  | .queueEnable q => some (.queueEnable q)
  | .queueDisable q => some (.queueDisable q)
  | .queueStatus q => some (.queueStatus q)
  | .storeReserve n => some (.storeReserve n)
  | .linkConfig l cfg => some (.linkConfig l cfg)
  | .linkMode l m => some (.linkMode l m)
  | .linkRecover l => some (.linkRecover l)
  | .linkForce l => some (.linkForce l)
  | .linkStatus l a c => some (.linkStatus l a c)
  | .sendCancel l t => some (.sendCancel l t)
  | .egressFlush l => some (.egressFlush l)
  | .ruleWrite i r => some (.ruleWrite i r)
  | .ruleCount n => some (.ruleCount n)
  | .ruleCopy => some .ruleCopy
  | .tableSwap => some .tableSwap
  | .ruleRead b i a => some (.ruleRead b i a)
  | .twinGroup g links w => some (.twinGroup g links w)
  | .twinFlush g => some (.twinFlush g)
  | .mailboxConfig m n => some (.mailboxConfig m n)
  | .mailboxRead m a => some (.mailboxRead m a)
  | .mailboxClear m => some (.mailboxClear m)
  | .cyclicSet e a => some (.cyclicSet e a)
  | .cyclicStart e => some (.cyclicStart e)
  | .cyclicStop e => some (.cyclicStop e)
  | .cyclicUpdate e n a => some (.cyclicUpdate e n a)
  | .cyclicClear e => some (.cyclicClear e)
  | .cyclicRead e a c => some (.cyclicRead e a c)
  | .powerOnReset => none
  | .reset _ => none
  | .start _ => none
  | .detach _ => none
  | .controlEnablesWrite _ _ => none
  | .cbaWrite _ _ => none
  | .kick _ => none
  | .irqClear _ => none
  | .registerWrite _ _ => none
  | .attachReadEnd _ => none
  | .hostAccessEnd _ => none
  | .quietInterval _ => none
  | .stuckEpisodeStart _ => none
  | .stuckEpisodeEnd _ => none
  | .receptionEnd _ _ => none
  | .contentionOpportunity _ => none
  | .contentionLost _ _ => none
  | .attemptEnd _ _ => none
  | .receptionSlotRequest _ => none
  | .inputListAppend _ => none
  | .sendFetchSlotRequest _ => none
  | .classification => none
  | .classificationEnd => none
  | .twinCheck => none
  | .twinExpiry _ _ _ => none
  | .mailboxStore _ => none
  | .forwardAdmission _ => none
  | .hostAdmission _ => none
  | .emissionRequest _ => none
  | .placeRequest _ => none
  | .deadlineExpiry _ _ => none
  | .emission _ => none
  | .emissionAnswer _ => none
  | .copyEnd _ => none
  | .creditRequest _ => none
  | .indexReadEnd _ _ => none
  | .commandTaken _ => none
  | .cqDeviceWordWriteEnd => none
  | .sendRecordTaken _ _ => none
  | .sqDeviceWordWriteEnd _ => none
  | .backlogAppend _ => none
  | .deliveryWriteStart _ => none
  | .deliveryRecordWriteEnd _ => none
  | .dqDeviceWordWriteEnd _ => none
  | .statusWriteStart => none
  | .statusRecordWriteEnd => none
  | .stqDeviceWordWriteEnd => none
  | .noticePost _ => none
  | .holdoffExpiry _ => none
  | .hostMemoryFault _ => none
  | .nop _ => none
  | .queueEnableDescriptorReadEnd _ => none
  | .linkStatusWriteEnd _ => none
  | .ruleReadWriteEnd _ => none
  | .mailboxReadWriteEnd _ => none
  | .cyclicSetReadEnd _ => none
  | .cyclicUpdateApply _ => none
  | .cyclicReadWriteEnd _ => none
  | .receptionBegin _ => none

/-- The operands that come from outside, beyond those of commands: lengths of records read, and a CONTROL write that is
neither START, DETACH nor RESET alone (R160). -/
def Instr.operandsWellFormed : Instr → Bool
  | .controlEnablesWrite _ actions => actions != 1#3 && actions != 2#3 && actions != 4#3
  | .attachReadEnd (.data header cq stq) => header.length == 64 && cq.length == 16 && stq.length == 16
  | .contentionLost _ line => 2 ≤ line.length
  | .indexReadEnd _ word => word.length == 4
  | .commandTaken record => record.length == 64
  | .sendRecordTaken _ record => record.length == 96
  | .holdoffExpiry q => 5 ≤ q.val
  | .queueEnableDescriptorReadEnd (.data bytes) => bytes.length == 16
  | .cyclicSetReadEnd payload => payload.length ≤ 64
  | .cyclicUpdateApply payload => payload.length ≤ 64
  | _ => true

/-- A well-formed happening. -/
def Instr.wellFormed (i : Instr) : Bool :=
  i.operandsWellFormed && (match i.command? with | some c => c.wellFormed | none => true)

end Sys2Proof
end

