-- ==== Sys2Proof/Machine/State.lean ====
section
/-! DEFINITION. The state of the FG44: every piece of state the manual gives the device, as plain data (INVENTORY.md lists
each with its rule), the queue of happenings waiting to be taken, the machine's faults and refusals, and the state
after power-on reset. -/

namespace Sys2Proof.Machine

/-! ## Frame store (R37) -/

/-- The frame fields of a slot (R37). The length of a frame is the number of its payload bytes. -/
structure Frame where
  key : Key
  seq : Seq
  payload : List Byte
  ingress : LinkId
  origin : FrameOrigin
  arrival : Time
  deriving DecidableEq, Repr

/-- One slot: FREE exactly when its reference count is 0 (R38). -/
structure Slot where
  count : Nat
  frame : Frame
  deriving DecidableEq, Repr

/-- The frame fields of a slot that nothing has filled. The manual gives them no meaning (R37): DESIGN CHOICE (log 10). -/
def Frame.blank : Frame :=
  { key := 0#16, seq := 0#4, payload := [], ingress := 0, origin := .received, arrival := 0#32 }

/-- The frame store (R37). The free count is a function of the slots (`Store.freeCount`). -/
structure Store where
  slots : Vector Slot 384
  reserve : Nat
  /-- the wait list of send fetchers, head first (R43) -/
  waiters : List LinkId
  deriving DecidableEq, Repr

/-! ## Link controllers (R17) -/

/-- The mode of a link; the join target stands inside JOINING, where alone it exists (R17). -/
inductive Mode where
  | offline | joining (target : JoinTarget) | online | listen | suspended | isolated
  deriving DecidableEq, Repr

/-- The band of the fault score (R24). -/
inductive Health where
  | good | caution | muted
  deriving DecidableEq, Repr

/-- The ten link counters (R35), wrapping. -/
structure LinkCounters where
  rxIntact : BitVec 32
  rxError : BitVec 32
  txAcked : BitVec 32
  txFailedAttempts : BitVec 32
  dropNoSlot : BitVec 32
  dropInputFull : BitVec 32
  dropUnmatched : BitVec 32
  dropByRule : BitVec 32
  forwardDropFull : BitVec 32
  forwardDropDown : BitVec 32
  deriving DecidableEq, Repr

/-- One link controller: the link-level state of R17 and the bus-level state at the head of chapter 1.
The attempt in flight is the in-flight entry of the link's egress set. -/
structure Link where
  mode : Mode
  score : Nat
  health : Health
  /-- absent: probation not running, count 0; present: running, with its count (R17, R27) -/
  probation : Option Nat
  config : LinkConfig
  counters : LinkCounters
  /-- the reception in progress: the samples that opened it (R8, R5) -/
  reception : Option Line
  /-- consecutive recessive bit-times (R6) -/
  recessiveRun : Nat
  /-- consecutive dominant bit-times (R15) -/
  dominantRun : Nat
  stuck : Bool
  deferral : Bool
  /-- the controller follows the bus (R5, R13, R15) -/
  following : Bool
  /-- recessive bit-times left until a followed bus is idle (R5; log 6) -/
  idleIn : Nat
  /-- INTACT frames not yet given a slot (R16 step 1; log 16) -/
  toStore : List Frame
  /-- slots granted and filled, not yet appended (R16 step 3; log 16) -/
  toInput : List SlotId
  deriving DecidableEq, Repr

/-! ## Routing engine (R51) -/

/-- Bank A or bank B. -/
inductive BankId where
  | a | b
  deriving DecidableEq, Repr

/-- A rule bank and its rule count (R51). -/
structure Bank where
  rules : Vector Rule 256
  count : Nat
  deriving DecidableEq, Repr

/-- The stage of a classification (R55). -/
inductive ClassStage where
  | twinWait | dispatch
  deriving DecidableEq, Repr

/-- The classification record (R55). The last three fields are the answers outstanding: the hand-overs not yet answered,
for each owner in the order in which it takes them (R64). -/
structure Classification where
  entry : SlotId
  time : Time
  /-- absent is FFFFh: no rule matched -/
  firstRule : Option RuleIndex
  links : List (LinkId × Key)
  queues : List (DeliveryId × BitVec 16)
  mailboxes : List MailboxId
  twinGroup : Option GroupId
  stage : ClassStage
  outLinks : List (LinkId × Key)
  outQueues : List (DeliveryId × BitVec 16)
  outMailboxes : List MailboxId
  deriving DecidableEq, Repr

/-- The routing engine (R51). -/
structure Routing where
  bankA : Bank
  bankB : Bank
  active : BankId
  /-- the input list, oldest first (R53) -/
  input : List SlotId
  classification : Option Classification
  deriving DecidableEq, Repr

/-! ## Twin filter (R75, R76) -/

/-- A twin group (R75); unconfigured when its link set is empty. -/
structure TwinGroup where
  links : LinkSet
  window : Nat
  passed : Nat
  suppressed : Nat
  evicted : Nat
  deriving DecidableEq, Repr

/-- An entry of the twin table (R76). -/
structure TwinEntry where
  group : GroupId
  key : Key
  seq : Seq
  first : LinkId
  expiry : Time
  deriving DecidableEq, Repr

/-- The twin filter: four groups and the table, oldest entry first (R76). -/
structure Twin where
  groups : Vector TwinGroup 4
  table : List TwinEntry
  deriving DecidableEq, Repr

/-! ## Mailbox table (R85) -/

/-- A mailbox's content with the arrival time and ingress link that are present exactly when it is (R85). -/
structure MailboxContent where
  slot : SlotId
  arrival : Time
  ingress : LinkId
  deriving DecidableEq, Repr

/-- A mailbox (R85). -/
structure Mailbox where
  content : Option MailboxContent
  fresh : Bool
  overwrites : Nat
  notify : Bool
  deriving DecidableEq, Repr

/-- The record of a MAILBOX_READ whose host write has not ended (R85). -/
structure MailboxRead where
  mailbox : MailboxId
  slot : SlotId
  address : HostAddress
  ingress : LinkId
  arrival : Time
  fresh : Bool
  overwrites : Nat
  deriving DecidableEq, Repr

/-! ## Egress scheduler (R94, R95) -/

/-- The origin of an egress entry, with its particulars (R95). The send queue of a HOST entry is that of the link. -/
inductive EntryOrigin where
  | host (tag : BitVec 32) (silent loopback orphaned : Bool)
  | forward (ingress : LinkId)
  | cyclic (entry : ScheduleId)
  deriving DecidableEq, Repr

/-- An egress entry (R95). -/
structure Entry where
  slot : SlotId
  key : Key
  seq : Seq
  origin : EntryOrigin
  budget : Nat
  deadline : Option Time
  attempts : Nat
  cancelRequested : Bool
  admission : BitVec 48
  deriving DecidableEq, Repr

/-- The egress set of one link (R94). -/
structure EgressSet where
  /-- in the order of R96 -/
  pending : List Entry
  inFlight : Option Entry
  reserved : Bool
  waiting : Bool
  counter : BitVec 48
  deriving DecidableEq, Repr

/-! ## Cyclic scheduler (R117) -/

/-- The state of a schedule entry (R117). -/
inductive ScheduleState where
  | empty | idle | armed
  deriving DecidableEq, Repr

/-- The answer to an emission request (R100). -/
inductive EmissionAnswer where
  | admitted | replaced | skipped
  deriving DecidableEq, Repr

/-- The end of a copy, as handed to the cyclic scheduler (R106, R121). -/
inductive CopyEnd where
  | sent | failed | expired | dropped
  deriving DecidableEq, Repr

/-- What the egress scheduler hands to the cyclic scheduler about one schedule entry, kept in order (R117). -/
inductive CyclicMessage where
  | answer (a : EmissionAnswer)
  | ended (e : CopyEnd)
  deriving DecidableEq, Repr

/-- An emission request handed to the egress scheduler (R100, R120). It holds a reference to its slot (R38). -/
structure EmissionRequest where
  slot : SlotId
  key : Key
  seq : Seq
  budget : Nat
  period : Nat
  policy : OverrunPolicy
  time : Time
  deriving DecidableEq, Repr

/-- The seven counters of a schedule entry, saturating at 65535 (R117). -/
structure CyclicCounters where
  emitted : Nat
  sent : Nat
  expired : Nat
  failed : Nat
  dropped : Nat
  skipped : Nat
  replaced : Nat
  deriving DecidableEq, Repr

/-- A schedule entry (R117), with the requests it has handed and not had taken, and the answers and copy ends handed back
and not yet taken (R121; log 16). -/
structure ScheduleEntry where
  state : ScheduleState
  link : LinkId
  key : Key
  period : Nat
  phase : Nat
  policy : OverrunPolicy
  budget : Nat
  template : Option SlotId
  seq : Seq
  nextDue : Option Time
  outstanding : Bool
  unanswered : Nat
  counters : CyclicCounters
  requests : List EmissionRequest
  inbox : List CyclicMessage
  deriving DecidableEq, Repr

/-! ## Host interface (chapter 9) -/

/-- The host-side state of the device (section 9.12). -/
inductive HostState where
  | detached | attaching | attached | detaching | faulted
  deriving DecidableEq, Repr

/-- The last cause reported in STATE (R161). -/
inductive LastCause where
  | none | badControlBlock | hostFault | stqFault
  deriving DecidableEq, Repr

/-- The last reset reported in STATE (R161). -/
inductive LastReset where
  | power | device
  deriving DecidableEq, Repr

/-- The stored registers and the host-side state (R159, R161, R163). -/
structure HostSide where
  state : HostState
  lastCause : LastCause
  lastReset : LastReset
  cbaLo : BitVec 32
  cbaHi : BitVec 32
  /-- CONTROL bits 8-11: ATTACH, STATUS, DELIVERY, FAULT -/
  enables : BitVec 4
  /-- IRQ bits 0-3: ATTACH, STATUS, DELIVERY, FAULT -/
  causes : BitVec 4
  deriving DecidableEq, Repr

/-- The state of a queue (R129). -/
inductive QueueState where
  | disabled | active | faulted
  deriving DecidableEq, Repr

/-- Why a queue is FAULTED (R129). -/
inductive FaultCause where
  | hostFault | badIndex
  deriving DecidableEq, Repr

/-- A queue descriptor as loaded (R127). -/
structure Descriptor where
  base : HostAddress
  size : Nat
  interruptEnable : Bool
  coalesce : Nat
  holdoff : Nat
  deriving DecidableEq, Repr

/-- A queue context (R129), with its coalescing state (R138). -/
structure Queue where
  state : QueueState
  cause : Option FaultCause
  desc : Descriptor
  known : Nat
  device : Nat
  reading : Bool
  reread : Bool
  counted : Nat
  holdoffEnd : Option Time
  deriving DecidableEq, Repr

/-- The write stage of a delivery writer or of the status writer (R134, R136). -/
inductive WriteStage where
  | idle | record | index
  deriving DecidableEq, Repr

/-- An entry of a delivery backlog (R134); an absent rule index is FFFFh. -/
structure BacklogEntry where
  slot : SlotId
  tag : BitVec 16
  firstRule : Option RuleIndex
  deriving DecidableEq, Repr

/-- A delivery writer: backlog, write stage and drop state (R134, R135). -/
structure DeliveryWriter where
  backlog : List BacklogEntry
  stage : WriteStage
  drops : BitVec 32
  arm : Bool
  deriving DecidableEq, Repr

/-- The stage of a send fetch (R133); `none` when the fetcher holds no fetch. In CREDIT the fetcher stands among the credit
waiters; in SLOT and PLACE it has the earlier claims and its request may or may not have been taken yet. -/
inductive FetchStage where
  | none | credit | slot | place | reading | index
  deriving DecidableEq, Repr

/-- A checked send record handed for HOST admission and not yet taken (R98, R133). -/
structure HostAdmission where
  slot : SlotId
  tag : BitVec 32
  key : Key
  seq : Seq
  budget : Nat
  silent : Bool
  loopback : Bool
  /-- relative deadline in microseconds, 0 meaning none -/
  lifetime : Nat
  deriving DecidableEq, Repr

/-- The send fetcher of one send queue (R133). -/
structure Fetcher where
  stage : FetchStage
  slot : Option SlotId
  admission : Option HostAdmission
  deriving DecidableEq, Repr

/-- The outcomes of send records (section 7.9). -/
inductive SendOutcome where
  | sent | failedUnacked | failedEcho | failedAbortSeen | expired | cancelled | flushed | linkDown | isolated
  | rejectedBadLength | rejectedBadField
  deriving DecidableEq, Repr

/-- The result codes of commands (R146). -/
inductive ResultCode where
  | ok | wrongState | badArgument | notFound | inFlight | noSpace | empty | hostFault | unknownCommand
  deriving DecidableEq, Repr

/-- A completion in the status writer's FIFO (R106, R132, R136). -/
inductive Completion where
  | sendDone (l : LinkId) (tag : BitVec 32) (outcome : SendOutcome) (attempts : Nat) (time : Time)
  | commandDone (result : ResultCode) (code : Nat) (tag : BitVec 32) (word0 word1 : BitVec 64) (time : Time)
  deriving DecidableEq, Repr

/-- The contents of notices (R34, R87, R135, R137, R139). -/
inductive NoticeBody where
  | linkState (l : LinkId) (old new : Mode)
  | linkHealth (l : LinkId) (old new : Health) (score : Nat)
  | linkStuck (l : LinkId)
  | linkFreed (l : LinkId)
  | queueFault (q : QueueId) (cause : FaultCause)
  | deliveryDropped (d : DeliveryId) (drops : BitVec 32)
  | mailboxFresh (m : MailboxId) (key : Key) (ingress : LinkId)
  | noticesLost (count : Nat)
  deriving DecidableEq, Repr

/-- A notice: its content and the device time of the happening that caused it (R137). -/
structure Notice where
  body : NoticeBody
  time : Time
  deriving DecidableEq, Repr

/-- The record the status writer is writing (R136), a completion with its reservation or a notice without one. -/
inductive StatusItem where
  | completion (c : Completion)
  | notice (n : Notice)
  deriving DecidableEq, Repr

/-- The status writer and the credits (R131, R136). -/
structure StatusWriter where
  reserved : Nat
  /-- the credit waiters, head first -/
  waiters : List Requester
  completions : List Completion
  stage : WriteStage
  /-- the record being written, in stage RECORD -/
  current : Option StatusItem
  lap : Bool
  deriving DecidableEq, Repr

/-- The stage of the command unit (R132). `finishing` is the time after the result has been handed to the status writer and
before the CQ device-word write has ended, when the unit is not yet IDLE. -/
inductive CommandStage where
  | idle | credit | reading | executing | finishing
  deriving DecidableEq, Repr

/-- The host access a command in execution is making with a buffer of its own (R132). -/
inductive CommandAccess where
  /-- QUEUE_ENABLE: the read of the queue's descriptor (R140) -/
  | descriptorRead
  /-- LINK_STATUS: the write of the link status block (R36) -/
  | linkStatusWrite (block : List Byte)
  /-- RULE_READ: the write of the rule image, with the result word (R73) -/
  | ruleImageWrite (image : List Byte) (word0 : BitVec 64)
  /-- MAILBOX_READ: the write of the frame image of the read in progress (R88) -/
  | frameImageWrite
  /-- CYCLIC_SET: the payload read into the granted slot (R118) -/
  | payloadRead (slot : SlotId)
  /-- CYCLIC_UPDATE: the payload read into the payload buffer (R123) -/
  | bufferRead
  /-- CYCLIC_READ: the write of the cyclic status block (R125) -/
  | cyclicStatusWrite (block : List Byte)
  deriving DecidableEq, Repr

/-- A command in execution: its tag, the command, and its own host access once it has one (R132). -/
structure Execution where
  tag : BitVec 32
  command : Command
  access : Option CommandAccess
  deriving DecidableEq, Repr

/-- The command unit (R132), with the payload buffer of CYCLIC_UPDATE (R123). -/
structure CommandUnit where
  stage : CommandStage
  execution : Option Execution
  /-- the write of the CQ device word is outstanding -/
  wordWrite : Bool
  buffer : List Byte
  deriving DecidableEq, Repr

/-- A host access under way whose effect is discarded, with the slot reference it keeps until it ends (R134, R142; log 12). -/
structure DiscardedAccess where
  access : HostAccess
  slot : Option SlotId
  deriving DecidableEq, Repr

/-! ## The whole device -/

/-- The state of the FG44 and the queue of happenings waiting to be taken. -/
structure State where
  /-- happenings waiting, first in first out -/
  pending : List Instr
  /-- device time (R164) -/
  time : Time
  links : Vector Link 4
  store : Store
  routing : Routing
  twin : Twin
  mailboxes : Vector Mailbox 128
  mailboxRead : Option MailboxRead
  egress : Vector EgressSet 4
  schedule : Vector ScheduleEntry 32
  host : HostSide
  queues : Vector Queue 14
  delivery : Vector DeliveryWriter 8
  fetchers : Vector Fetcher 4
  status : StatusWriter
  /-- the notice list, head first (R137) -/
  notices : List Notice
  /-- the lost count (R137) -/
  lost : Nat
  /-- notices posted and not yet taken by the host interface (log 15) -/
  posted : List Notice
  unit : CommandUnit
  discarded : List DiscardedAccess
  deriving DecidableEq, Repr

/-- The faults of the machine: none. Every error the manual describes (a host-memory fault, a bad index, a bad argument)
has an effect the manual describes, and is a next state (R130, R139, R143, R145). No meaning raises a fault. -/
inductive Fault where
  deriving DecidableEq, Repr

/-- The refusals of the machine. -/
inductive Refusal where
  /-- raised by `exec` alone, for a row of the table that has no meaning yet; safe: nothing is claimed of that row -/
  | notModelled (mnemonic : String)
  deriving DecidableEq, Repr

/-! ## Reset (R17, R33, R37, R51, R52, R75, R76, R85, R94, R117, R129, R159) -/

/-- The reset configuration of R33. -/
def LinkConfig.reset : LinkConfig :=
  { bitTime := 0, recoveryPolicy := .auto, isolateAction := .hold,
    reportMask := { linkState := true, linkHealth := true, stuck := true },
    unmatchedQueue := none, forwardRetries := 3, forwardLifetime := 0 }

/-- All ten counters 0 (R35). -/
def LinkCounters.zero : LinkCounters :=
  { rxIntact := 0#32, rxError := 0#32, txAcked := 0#32, txFailedAttempts := 0#32, dropNoSlot := 0#32,
    dropInputFull := 0#32, dropUnmatched := 0#32, dropByRule := 0#32, forwardDropFull := 0#32, forwardDropDown := 0#32 }

/-- A link controller after reset (R17, and the head of chapter 1). -/
def Link.reset : Link :=
  { mode := .offline, score := 0, health := .good, probation := none, config := LinkConfig.reset,
    counters := LinkCounters.zero, reception := none, recessiveRun := 0, dominantRun := 0, stuck := false,
    deferral := false, following := false, idleIn := 0, toStore := [], toInput := [] }

/-- The frame store after reset (R37, R49). -/
def Store.reset : Store :=
  { slots := Vector.replicate 384 { count := 0, frame := Frame.blank }, reserve := Config.resetReserve, waiters := [] }

/-- The reset rule of R52, which matches nothing. -/
def Rule.reset : Rule :=
  { ingress := 0#4, origin := .received, keyValue := 0#16, keyMask := 0#16, lengthMin := 0, lengthMax := 64,
    links := 0#4, rewriteKey := none, delivery := 0#8, tag := 0#16, mailbox := none, continueWalk := false, twin := none }

/-- A rule bank after reset (R51). -/
def Bank.reset : Bank := { rules := Vector.replicate 256 Rule.reset, count := 0 }

/-- The routing engine after reset (R51). -/
def Routing.reset : Routing :=
  { bankA := Bank.reset, bankB := Bank.reset, active := .a, input := [], classification := none }

/-- The twin filter after reset (R75, R76). -/
def Twin.reset : Twin :=
  { groups := Vector.replicate 4 { links := 0#4, window := 0, passed := 0, suppressed := 0, evicted := 0 }, table := [] }

/-- A mailbox after reset (R85). -/
def Mailbox.reset : Mailbox := { content := none, fresh := false, overwrites := 0, notify := false }

/-- An egress set after reset (R94). -/
def EgressSet.reset : EgressSet :=
  { pending := [], inFlight := none, reserved := false, waiting := false, counter := 0#48 }

/-- The seven counters at 0. -/
def CyclicCounters.zero : CyclicCounters :=
  { emitted := 0, sent := 0, expired := 0, failed := 0, dropped := 0, skipped := 0, replaced := 0 }

/-- A schedule entry after reset (R117). -/
def ScheduleEntry.reset : ScheduleEntry :=
  { state := .empty, link := 0, key := 0#16, period := 1, phase := 0, policy := .skip, budget := 0, template := none,
    seq := 0#4, nextDue := none, outstanding := false, unanswered := 0, counters := CyclicCounters.zero,
    requests := [], inbox := [] }

/-- The registers and host-side state after a reset of the given kind (R159, R165). -/
def HostSide.reset (kind : LastReset) : HostSide :=
  { state := .detached, lastCause := .none, lastReset := kind, cbaLo := 0#32, cbaHi := 0#32, enables := 0#4, causes := 0#4 }

/-- A queue context after reset (R129). -/
def Queue.reset : Queue :=
  { state := .disabled, cause := none,
    desc := { base := 0#64, size := 16, interruptEnable := false, coalesce := 1, holdoff := 0 },
    known := 0, device := 0, reading := false, reread := false, counted := 0, holdoffEnd := none }

/-- A delivery writer after reset (R134, R135). -/
def DeliveryWriter.reset : DeliveryWriter := { backlog := [], stage := .idle, drops := 0#32, arm := false }

/-- A send fetcher after reset: no fetch. -/
def Fetcher.reset : Fetcher := { stage := .none, slot := none, admission := none }

/-- The status writer after reset (R131, R136). The lap value has no reset value; it is set at attach: DESIGN CHOICE (log 10). -/
def StatusWriter.reset : StatusWriter :=
  { reserved := 0, waiters := [], completions := [], stage := .idle, current := none, lap := false }

/-- The command unit after reset. The payload buffer has no reset value: DESIGN CHOICE (log 10). -/
def CommandUnit.reset : CommandUnit := { stage := .idle, execution := none, wordWrite := false, buffer := [] }

/-- The device right after a reset of the given kind (R49, R165), with these happenings waiting. -/
def State.afterReset (kind : LastReset) (pending : List Instr) : State :=
  { pending := pending, time := 0#32, links := Vector.replicate 4 Link.reset, store := Store.reset, routing := Routing.reset,
    twin := Twin.reset, mailboxes := Vector.replicate 128 Mailbox.reset, mailboxRead := none,
    egress := Vector.replicate 4 EgressSet.reset, schedule := Vector.replicate 32 ScheduleEntry.reset,
    host := HostSide.reset kind, queues := Vector.replicate 14 Queue.reset,
    delivery := Vector.replicate 8 DeliveryWriter.reset, fetchers := Vector.replicate 4 Fetcher.reset,
    status := StatusWriter.reset, notices := [], lost := 0, posted := [], unit := CommandUnit.reset, discarded := [] }

/-- The machine right after power-on reset, with no happening waiting (R165). -/
def State.reset : State := State.afterReset .power []

end Sys2Proof.Machine
end

