-- ==== Sys2Proof/Machine/Operands.lean ====
section
/-! DEFINITION. The operand forms of the block: the byte layouts of chapter 12, read and written. Every multi-byte field is
stored least significant byte first (R166); the device examines a whole field, so a value out of range is out of range. -/

namespace Sys2Proof.Machine

/-! ## Bytes (R166) -/

/-- The unsigned number that bytes hold, least significant byte first (R166). -/
def leNat : List Byte → Nat
  | [] => 0
  | b :: bs => b.toNat + 256 * leNat bs

/-- A number as `n` bytes, least significant byte first (R166). -/
def leBytes : Nat → Nat → List Byte
  | 0, _ => []
  | n + 1, v => BitVec.ofNat 8 v :: leBytes n (v / 256)

/-- The field of `len` bytes at offset `off` of a record (R166). -/
def field (r : List Byte) (off len : Nat) : Nat := leNat ((r.drop off).take len)

/-- The byte at an offset of a record. -/
def byteAt (r : List Byte) (off : Nat) : Byte := r.getD off 0#8

/-- Bytes extended with zeros to a length. -/
def padTo (n : Nat) (bs : List Byte) : List Byte := bs ++ List.replicate (n - bs.length) 0#8

/-- Every byte outside the named ranges (offset, length) is 0 (R168). -/
def zeroOutside (ranges : List (Nat × Nat)) (size : Nat) (r : List Byte) : Bool :=
  (List.range size).all fun i =>
    ranges.any (fun range => range.1 ≤ i && i < range.1 + range.2) || byteAt r i == 0#8

/-- A number as a member of `Fin n`, when it is in range. -/
def inRange (n v : Nat) : Option (Fin n) := if h : v < n then some ⟨v, h⟩ else none

/-- A link set held in a byte: no member outside L0-L3. -/
def linkSetOf (b : Byte) : Option LinkSet := if b.toNat < 16 then some (b.setWidth 4) else none

/-! ## Encodings (section 12.4) -/

/-- Common encoding of modes. -/
def Mode.code : Mode → Nat
  | .offline => 0
  | .joining _ => 1
  | .online => 2
  | .listen => 3
  | .suspended => 4
  | .isolated => 5

/-- The join target as the status block and the result word hold it: its mode's code, or FFh. -/
def Mode.targetCode : Mode → Nat
  | .joining .online => 2
  | .joining .listen => 3
  | _ => 0xFF

/-- Common encoding of health. -/
def Health.code : Health → Nat
  | .good => 0
  | .caution => 1
  | .muted => 2

/-- Common encoding of queue states. -/
def QueueState.code : QueueState → Nat
  | .disabled => 0
  | .active => 1
  | .faulted => 2

/-- Encoding of a fault cause: 0 absent, 1 HOST_FAULT, 2 BAD_INDEX (section 12.6). -/
def faultCauseCode : Option FaultCause → Nat
  | none => 0
  | some .hostFault => 1
  | some .badIndex => 2

/-- Common encoding of schedule entry states. -/
def ScheduleState.code : ScheduleState → Nat
  | .empty => 0
  | .idle => 1
  | .armed => 2

/-- Outcome codes of SEND_DONE records (section 12.4). -/
def SendOutcome.code : SendOutcome → Nat
  | .sent => 0
  | .failedUnacked => 1
  | .failedEcho => 2
  | .failedAbortSeen => 3
  | .expired => 4
  | .cancelled => 5
  | .flushed => 6
  | .linkDown => 7
  | .isolated => 8
  | .rejectedBadLength => 9
  | .rejectedBadField => 10

/-- Result codes of COMMAND_DONE records (section 12.4). -/
def ResultCode.code : ResultCode → Nat
  | .ok => 0
  | .wrongState => 1
  | .badArgument => 2
  | .notFound => 3
  | .inFlight => 4
  | .noSpace => 5
  | .empty => 6
  | .hostFault => 7
  | .unknownCommand => 8

/-- Origins that a delivery record or frame image can carry: 0 RECEIVED, 2 LOOPBACK (section 12.3); a frame that reaches a
backlog or a mailbox has one of these two, and the codes of the others are the model's (log 26). -/
def frameOriginCode : FrameOrigin → Nat
  | .received => 0
  | .host => 1
  | .loopback => 2
  | .cyclic => 3

/-- Encoding of recovery_policy (section 12.5). -/
def recoveryPolicyCode : RecoveryPolicy → Nat
  | .auto => 0
  | .hold => 1
  | .manual => 2

/-- Encoding of isolate_action (section 12.5). -/
def isolateActionCode : IsolateAction → Nat
  | .hold => 0
  | .flush => 1

/-- Encoding of report_mask: bit 0 LINK_STATE, 1 LINK_HEALTH, 2 STUCK (section 12.5). -/
def reportMaskCode (m : ReportMask) : Nat := m.linkState.toNat + 2 * m.linkHealth.toNat + 4 * m.stuck.toNat

/-- Encoding of unmatched_queue: 0 none, 1-8 DQ0-DQ7 (section 12.5). -/
def unmatchedCode : Option DeliveryId → Nat
  | none => 0
  | some d => d.val + 1

/-- Encoding of the origin filter (section 12.5, rule image). -/
def originFilterCode : OriginFilter → Nat
  | .received => 0
  | .loopback => 1
  | .both => 2

/-- Encoding of the overrun policy (section 12.5). -/
def overrunPolicyCode : OverrunPolicy → Nat
  | .skip => 0
  | .replace => 1

/-- Encoding of the bank letter: 0 A, 1 B (section 12.6). -/
def BankId.code : BankId → Nat
  | .a => 0
  | .b => 1

/-- Encoding of a requested mode: the mode's code. -/
def requestedModeCode : RequestedMode → Nat
  | .offline => 0
  | .online => 2
  | .listen => 3
  | .suspended => 4

/-- The first rule index as records hold it: FFFFh when no rule matched (R55). -/
def firstRuleCode : Option RuleIndex → Nat
  | none => 0xFFFF
  | some i => i.val

/-- A result word from numbers placed at bit positions (section 12.6). -/
def packWord (parts : List (Nat × Nat)) : BitVec 64 :=
  BitVec.ofNat 64 (parts.foldr (fun p acc => p.2 * 2 ^ p.1 + acc) 0)

/-! ## Rule image (section 12.5) -/

/-- The reserved bits and bytes of a rule image are 0, those that the image's own contents make reserved among them
(R153, R168). -/
def ruleImageReservedZero (b : List Byte) : Bool :=
  let flags := byteAt b 10
  (flags &&& 0xF0#8) == 0#8
    && (flags.getLsbD 1 || byteAt b 11 == 0#8)
    && (flags.getLsbD 2 || (byteAt b 12 == 0#8 && byteAt b 13 == 0#8))
    && (flags.getLsbD 3 || byteAt b 14 == 0#8)
    && byteAt b 15 == 0#8
    && ((List.range 14).all fun i => byteAt b (18 + i) == 0#8)

/-- The origin filter a byte names. -/
def originFilterOf (n : Nat) : Option OriginFilter :=
  if n = 0 then some .received else if n = 1 then some .loopback else if n = 2 then some .both else none

/-- The rule a rule image holds, when its fields are in range (R52, R153). -/
def ruleOf (b : List Byte) : Option Rule := do
  let ingress ← linkSetOf (byteAt b 0)
  let links ← linkSetOf (byteAt b 8)
  let origin ← originFilterOf (field b 1 1)
  let flags := byteAt b 10
  let mailbox ← if flags.getLsbD 3 then (inRange 128 (field b 14 1)).map some else some none
  let twin ← if flags.getLsbD 1 then (inRange 4 (field b 11 1)).map some else some none
  some { ingress := ingress, origin := origin, keyValue := BitVec.ofNat 16 (field b 2 2),
         keyMask := BitVec.ofNat 16 (field b 4 2), lengthMin := field b 6 1, lengthMax := field b 7 1, links := links,
         rewriteKey := if flags.getLsbD 2 then some (BitVec.ofNat 16 (field b 12 2)) else none,
         delivery := byteAt b 9, tag := BitVec.ofNat 16 (field b 16 2), mailbox := mailbox,
         continueWalk := flags.getLsbD 0, twin := twin }

/-- The 32-byte image of a rule, as RULE_WRITE carries it and RULE_READ writes it (section 12.5). -/
def ruleImage (r : Rule) : List Byte :=
  leBytes 1 r.ingress.toNat ++ leBytes 1 (originFilterCode r.origin) ++ leBytes 2 r.keyValue.toNat ++ leBytes 2 r.keyMask.toNat
    ++ leBytes 1 r.lengthMin ++ leBytes 1 r.lengthMax ++ leBytes 1 r.links.toNat ++ leBytes 1 r.delivery.toNat
    ++ leBytes 1 (r.continueWalk.toNat + 2 * r.twin.isSome.toNat + 4 * r.rewriteKey.isSome.toNat + 8 * r.mailbox.isSome.toNat)
    ++ leBytes 1 ((r.twin.map (·.val)).getD 0) ++ leBytes 2 ((r.rewriteKey.map (·.toNat)).getD 0)
    ++ leBytes 1 ((r.mailbox.map (·.val)).getD 0) ++ leBytes 1 0 ++ leBytes 2 r.tag.toNat ++ List.replicate 14 0#8

/-! ## Command record (section 12.5) -/

/-- The bytes a command's layout names, beyond the code (byte 0) and the tag (bytes 4-7); none for a code that is not one of
the 28. -/
def commandLayout (code : Nat) : Option (List (Nat × Nat)) :=
  match code with
  | 0x01 => some []
  | 0x02 => some [(16, 2)]
  | 0x03 => some [(16, 2)]
  | 0x04 => some [(16, 2)]
  | 0x05 => some [(16, 2)]
  | 0x10 => some [(16, 2), (18, 2), (20, 1), (21, 1), (22, 1), (23, 1), (24, 1), (28, 4)]
  | 0x11 => some [(16, 2), (18, 1)]
  | 0x12 => some [(16, 2)]
  | 0x13 => some [(16, 2)]
  | 0x14 => some [(8, 8), (16, 2), (18, 1)]
  | 0x20 => some [(16, 2), (20, 4)]
  | 0x21 => some [(16, 2)]
  | 0x30 => some [(16, 2), (24, 32)]
  | 0x31 => some [(16, 2)]
  | 0x32 => some []
  | 0x33 => some []
  | 0x34 => some [(8, 8), (16, 2), (18, 1)]
  | 0x40 => some [(16, 2), (18, 1), (20, 4)]
  | 0x41 => some [(16, 2)]
  | 0x50 => some [(16, 2), (18, 1)]
  | 0x51 => some [(8, 8), (16, 2)]
  | 0x52 => some [(16, 2)]
  | 0x60 => some [(8, 8), (16, 2), (18, 1), (19, 1), (20, 2), (22, 2), (24, 2), (26, 1), (27, 1)]
  | 0x61 => some [(16, 2)]
  | 0x62 => some [(16, 2)]
  | 0x63 => some [(8, 8), (16, 2), (27, 1)]
  | 0x64 => some [(16, 2)]
  | 0x65 => some [(8, 8), (16, 2), (18, 1)]
  | _ => none

/-- The code of a command (section 12.5). -/
def commandCode : Command → Nat
  | .nop => 0x01
  | .queueEnable _ => 0x02
  | .queueDisable _ => 0x03
  | .queueStatus _ => 0x04
  | .storeReserve _ => 0x05
  | .linkConfig _ _ => 0x10
  | .linkMode _ _ => 0x11
  | .linkRecover _ => 0x12
  | .linkForce _ => 0x13
  | .linkStatus _ _ _ => 0x14
  | .sendCancel _ _ => 0x20
  | .egressFlush _ => 0x21
  | .ruleWrite _ _ => 0x30
  | .ruleCount _ => 0x31
  | .ruleCopy => 0x32
  | .tableSwap => 0x33
  | .ruleRead _ _ _ => 0x34
  | .twinGroup _ _ _ => 0x40
  | .twinFlush _ => 0x41
  | .mailboxConfig _ _ => 0x50
  | .mailboxRead _ _ => 0x51
  | .mailboxClear _ => 0x52
  | .cyclicSet _ _ => 0x60
  | .cyclicStart _ => 0x61
  | .cyclicStop _ => 0x62
  | .cyclicUpdate _ _ _ => 0x63
  | .cyclicClear _ => 0x64
  | .cyclicRead _ _ _ => 0x65

/-- The host address of a command record. -/
def recordAddress (r : List Byte) : HostAddress := BitVec.ofNat 64 (field r 8 8)

/-- Check 2 of R145: every reserved field of the record is 0 (R168). -/
def commandReservedZero (code : Nat) (layout : List (Nat × Nat)) (r : List Byte) : Bool :=
  zeroOutside ((0, 1) :: (4, 4) :: layout) 64 r
    && (match code with
        | 0x10 => (byteAt r 22 &&& 0xF8#8) == 0#8
        | 0x14 => (byteAt r 18 &&& 0xFE#8) == 0#8
        | 0x65 => (byteAt r 18 &&& 0xFE#8) == 0#8
        | 0x30 => ruleImageReservedZero (r.drop 24)
        | _ => true)

/-- The link configuration a LINK_CONFIG record holds (section 12.5). -/
def linkConfigOf (r : List Byte) : Option LinkConfig := do
  let recovery ← match field r 20 1 with
    | 0 => some RecoveryPolicy.auto
    | 1 => some RecoveryPolicy.hold
    | 2 => some RecoveryPolicy.manual
    | _ => none
  let isolate ← match field r 21 1 with
    | 0 => some IsolateAction.hold
    | 1 => some IsolateAction.flush
    | _ => none
  let unmatched ← if field r 23 1 = 0 then some none else (inRange 8 (field r 23 1 - 1)).map some
  let mask := byteAt r 22
  some { bitTime := field r 18 2, recoveryPolicy := recovery, isolateAction := isolate,
         reportMask := { linkState := mask.getLsbD 0, linkHealth := mask.getLsbD 1, stuck := mask.getLsbD 2 },
         unmatchedQueue := unmatched, forwardRetries := field r 24 1, forwardLifetime := field r 28 4 }

/-- The mode LINK_MODE requests; a value that names no mode, JOINING or ISOLATED names none (R150). -/
def requestedModeOf (n : Nat) : Option RequestedMode :=
  match n with
  | 0 => some .offline
  | 2 => some .online
  | 3 => some .listen
  | 4 => some .suspended
  | _ => none

/-- The overrun policy a byte names (section 12.5). -/
def overrunPolicyOf (n : Nat) : Option OverrunPolicy :=
  match n with
  | 0 => some .skip
  | 1 => some .replace
  | _ => none

/-- The bank choice a byte names (section 12.5). -/
def bankChoiceOf (n : Nat) : Option BankChoice :=
  match n with
  | 0 => some .active
  | 1 => some .staging
  | _ => none

/-- A byte that is 0 for off or 1 for on (section 12.5). -/
def onOffOf (n : Nat) : Option Bool :=
  match n with
  | 0 => some false
  | 1 => some true
  | _ => none

/-- The arguments of a command record with a known code, as far as their layout fixes their range (check 3 of R145;
`Command.wellFormed` has the rest). -/
def commandArguments (code : Nat) (r : List Byte) : Option Command :=
  let object := field r 16 2
  match code with
  | 0x01 => some .nop
  | 0x02 => do let q ← inRange 14 object; some (.queueEnable q)
  | 0x03 => do let q ← inRange 14 object; some (.queueDisable q)
  | 0x04 => do let q ← inRange 14 object; some (.queueStatus q)
  | 0x05 => some (.storeReserve object)
  | 0x10 => do let l ← inRange 4 object; let cfg ← linkConfigOf r; some (.linkConfig l cfg)
  | 0x11 => do let l ← inRange 4 object; let m ← requestedModeOf (field r 18 1); some (.linkMode l m)
  | 0x12 => do let l ← inRange 4 object; some (.linkRecover l)
  | 0x13 => do let l ← inRange 4 object; some (.linkForce l)
  | 0x14 => do let l ← inRange 4 object; some (.linkStatus l (recordAddress r) ((byteAt r 18).getLsbD 0))
  | 0x20 => do let l ← inRange 4 object; some (.sendCancel l (BitVec.ofNat 32 (field r 20 4)))
  | 0x21 => do let l ← inRange 4 object; some (.egressFlush l)
  | 0x30 => do let i ← inRange 256 object; let rule ← ruleOf (r.drop 24); some (.ruleWrite i rule)
  | 0x31 => some (.ruleCount object)
  | 0x32 => some .ruleCopy
  | 0x33 => some .tableSwap
  | 0x34 => do let b ← bankChoiceOf (field r 18 1); let i ← inRange 256 object; some (.ruleRead b i (recordAddress r))
  | 0x40 => do let g ← inRange 4 object; let ls ← linkSetOf (byteAt r 18); some (.twinGroup g ls (field r 20 4))
  | 0x41 => do let g ← inRange 4 object; some (.twinFlush g)
  | 0x50 => do let m ← inRange 128 object; let n ← onOffOf (field r 18 1); some (.mailboxConfig m n)
  | 0x51 => do let m ← inRange 128 object; some (.mailboxRead m (recordAddress r))
  | 0x52 => do let m ← inRange 128 object; some (.mailboxClear m)
  | 0x60 => do
      let e ← inRange 32 object
      let l ← inRange 4 (field r 18 1)
      let p ← overrunPolicyOf (field r 19 1)
      some (.cyclicSet e
        { link := l, key := BitVec.ofNat 16 (field r 20 2), period := field r 22 2, phase := field r 24 2, policy := p,
          budget := field r 26 1, length := field r 27 1, address := recordAddress r })
  | 0x61 => do let e ← inRange 32 object; some (.cyclicStart e)
  | 0x62 => do let e ← inRange 32 object; some (.cyclicStop e)
  | 0x63 => do let e ← inRange 32 object; some (.cyclicUpdate e (field r 27 1) (recordAddress r))
  | 0x64 => do let e ← inRange 32 object; some (.cyclicClear e)
  | 0x65 => do let e ← inRange 32 object; some (.cyclicRead e (recordAddress r) ((byteAt r 18).getLsbD 0))
  | _ => none

/-- Checks 1 to 3 of R145 on a command record: the command, or the code under which it fails. -/
def decodeCommand (r : List Byte) : Except ResultCode Command :=
  let code := field r 0 1
  match commandLayout code with
  | none => .error .unknownCommand
  | some layout =>
    if commandReservedZero code layout r then
      match commandArguments code r with
      | none => .error .badArgument
      | some c => if c.wellFormed then .ok c else .error .badArgument
    else .error .badArgument

/-- The tag of a command record (section 12.5). -/
def commandTag (r : List Byte) : BitVec 32 := BitVec.ofNat 32 (field r 4 4)

/-- The record software writes for a command: its host address, object number and the argument bytes from 18 on. -/
def commandBody : Command → Nat × Nat × List Byte
  | .nop => (0, 0, [])
  | .queueEnable q => (0, q.val, [])
  | .queueDisable q => (0, q.val, [])
  | .queueStatus q => (0, q.val, [])
  | .storeReserve n => (0, n, [])
  | .linkConfig l c =>
    (0, l.val, leBytes 2 c.bitTime ++ leBytes 1 (recoveryPolicyCode c.recoveryPolicy) ++ leBytes 1 (isolateActionCode c.isolateAction)
      ++ leBytes 1 (reportMaskCode c.reportMask) ++ leBytes 1 (unmatchedCode c.unmatchedQueue) ++ leBytes 1 c.forwardRetries
      ++ List.replicate 3 0#8 ++ leBytes 4 c.forwardLifetime)
  | .linkMode l m => (0, l.val, leBytes 1 (requestedModeCode m))
  | .linkRecover l => (0, l.val, [])
  | .linkForce l => (0, l.val, [])
  | .linkStatus l a clear => (a.toNat, l.val, leBytes 1 clear.toNat)
  | .sendCancel l tag => (0, l.val, List.replicate 2 0#8 ++ leBytes 4 tag.toNat)
  | .egressFlush l => (0, l.val, [])
  | .ruleWrite i r => (0, i.val, List.replicate 6 0#8 ++ ruleImage r)
  | .ruleCount n => (0, n, [])
  | .ruleCopy => (0, 0, [])
  | .tableSwap => (0, 0, [])
  | .ruleRead b i a => (a.toNat, i.val, leBytes 1 (match b with | .active => 0 | .staging => 1))
  | .twinGroup g ls w => (0, g.val, leBytes 1 ls.toNat ++ List.replicate 1 0#8 ++ leBytes 4 w)
  | .twinFlush g => (0, g.val, [])
  | .mailboxConfig m n => (0, m.val, leBytes 1 n.toNat)
  | .mailboxRead m a => (a.toNat, m.val, [])
  | .mailboxClear m => (0, m.val, [])
  | .cyclicSet e a =>
    (a.address.toNat, e.val, leBytes 1 a.link.val ++ leBytes 1 (overrunPolicyCode a.policy) ++ leBytes 2 a.key.toNat ++ leBytes 2 a.period
      ++ leBytes 2 a.phase ++ leBytes 1 a.budget ++ leBytes 1 a.length)
  | .cyclicStart e => (0, e.val, [])
  | .cyclicStop e => (0, e.val, [])
  | .cyclicUpdate e n a => (a.toNat, e.val, List.replicate 9 0#8 ++ leBytes 1 n)
  | .cyclicClear e => (0, e.val, [])
  | .cyclicRead e a clear => (a.toNat, e.val, leBytes 1 clear.toNat)

/-- The 64-byte command record of a command with a tag (section 12.5). -/
def encodeCommand (tag : BitVec 32) (c : Command) : List Byte :=
  let body := commandBody c
  leBytes 1 (commandCode c) ++ List.replicate 3 0#8 ++ leBytes 4 tag.toNat ++ leBytes 8 body.1 ++ leBytes 2 body.2.1
    ++ padTo 46 body.2.2

/-! ## Send record (section 12.2) -/

/-- The payload of a send record: bytes 32 to 31 + length; at most 64 (log 33). -/
def sendRecordPayload (r : List Byte) : List Byte := (r.drop 32).take (min (field r 7 1) 64)

/-- The frame with which a send fetch fills its slot (R45). Of a record that will be rejected for its length or its sequence the slot holds
64 payload bytes, or the low four bits of the sequence (log 33). -/
def sendRecordFrame (r : List Byte) (l : LinkId) (now : Time) : Frame :=
  { key := BitVec.ofNat 16 (field r 4 2), seq := BitVec.ofNat 4 (field r 6 1), payload := sendRecordPayload r, ingress := l,
    origin := .host, arrival := now }

/-- The reserved fields of a send record (section 12.2). -/
def sendRecordReservedZero (r : List Byte) : Bool :=
  (byteAt r 9 &&& 0xFC#8) == 0#8 && byteAt r 10 == 0#8 && byteAt r 11 == 0#8
    && ((List.range 17).all fun i => byteAt r (15 + i) == 0#8)

/-- The checks of R133 on a send record, in their order: the length, then reserved fields and ranges. -/
def sendRecordCheck (r : List Byte) : Option SendOutcome :=
  if 64 < field r 7 1 then some .rejectedBadLength
  else if sendRecordReservedZero r && field r 6 1 ≤ 15 && field r 8 1 ≤ 15 then none
  else some .rejectedBadField

/-- The admission a checked send record hands on, with the slot of its fetch (R98, R133). -/
def sendRecordAdmission (r : List Byte) (slot : SlotId) : HostAdmission :=
  { slot := slot, tag := BitVec.ofNat 32 (field r 0 4), key := BitVec.ofNat 16 (field r 4 2),
    seq := BitVec.ofNat 4 (field r 6 1), budget := field r 8 1, silent := (byteAt r 9).getLsbD 0,
    loopback := (byteAt r 9).getLsbD 1, lifetime := field r 12 3 }

/-! ## Control block (section 12.1) -/

/-- A header is valid when its format version is 1 and its reserved fields are 0 (R127). -/
def headerValid (h : List Byte) : Bool := field h 0 4 == 1 && zeroOutside [(0, 4)] 64 h

/-- The descriptor a 16-byte image holds (section 12.1). -/
def descriptorOf (b : List Byte) : Descriptor :=
  { base := BitVec.ofNat 64 (field b 0 8), size := field b 8 2, interruptEnable := (byteAt b 10).getLsbD 0,
    coalesce := field b 11 1, holdoff := field b 12 2 }

/-- The sizes a ring may have: a power of two, 16-4096 (R127). -/
def ringSizeValid (n : Nat) : Bool := [16, 32, 64, 128, 256, 512, 1024, 2048, 4096].contains n

/-- A descriptor is valid for a queue by the table of R127; the coalescing count is examined only under interrupt enable. -/
def descriptorValid (q : QueueId) (b : List Byte) : Bool :=
  let d := descriptorOf b
  field b 0 8 % 64 == 0 && ringSizeValid d.size
    && (byteAt b 10 &&& 0xFE#8) == 0#8 && byteAt b 14 == 0#8 && byteAt b 15 == 0#8
    && (!d.interruptEnable || (5 ≤ q.val && 1 ≤ d.coalesce && d.coalesce ≤ 64))

/-! ## Records the device writes -/

/-- The 96-byte layout shared by delivery records and frame images (section 12.3). -/
def frameRecord (f : Frame) (ingress : LinkId) (arrival : Time) (tag : BitVec 16) (firstRule : Nat) : List Byte :=
  leBytes 1 ingress.val ++ leBytes 1 (frameOriginCode f.origin) ++ leBytes 2 f.key.toNat ++ leBytes 1 f.seq.toNat
    ++ leBytes 1 f.payload.length ++ leBytes 2 tag.toNat ++ leBytes 2 firstRule ++ List.replicate 2 0#8
    ++ leBytes 4 arrival.toNat ++ List.replicate 16 0#8 ++ padTo 64 f.payload

/-- The delivery record of a backlog entry (R134, section 12.3). -/
def deliveryRecord (f : Frame) (e : BacklogEntry) : List Byte :=
  frameRecord f f.ingress f.arrival e.tag (firstRuleCode e.firstRule)

/-- The frame image MAILBOX_READ writes; tag and first rule index are written 0 (R88, section 12.3). -/
def frameImage (f : Frame) (r : MailboxRead) : List Byte := frameRecord f r.ingress r.arrival 0#16 0

/-- Kind, source and word 0 of a notice (section 12.4). -/
def noticeFields : NoticeBody → Nat × Nat × BitVec 64
  | .linkState l old new => (1, l.val, packWord [(0, old.code), (8, new.code)])
  | .linkHealth l old new score => (2, l.val, packWord [(0, old.code), (8, new.code), (16, score)])
  | .linkStuck l => (3, l.val, 0#64)
  | .linkFreed l => (4, l.val, 0#64)
  | .queueFault q cause => (5, q.val, packWord [(0, faultCauseCode (some cause))])
  | .deliveryDropped d drops => (6, d.val + 5, packWord [(0, drops.toNat)])
  | .mailboxFresh m key ingress => (7, m.val, packWord [(0, key.toNat), (16, ingress.val)])
  | .noticesLost n => (8, 0, packWord [(0, n)])

/-- The 32-byte layout of a status record (section 12.4, R167). -/
def statusLayout (kind : Nat) (lap : Bool) (code source : Nat) (tag : BitVec 32) (word0 word1 : BitVec 64) (time : Time) :
    List Byte :=
  leBytes 1 (kind + 128 * lap.toNat) ++ leBytes 1 code ++ leBytes 2 source ++ leBytes 4 tag.toNat
    ++ leBytes 8 word0.toNat ++ leBytes 8 word1.toNat ++ leBytes 4 time.toNat ++ List.replicate 4 0#8

/-- The status record of a completion or notice, with the lap value (section 12.4, R167). -/
def statusRecord (lap : Bool) : StatusItem → List Byte
  | .completion (.sendDone l tag outcome attempts time) =>
    statusLayout 1 lap outcome.code l.val tag (packWord [(0, attempts)]) 0#64 time
  | .completion (.commandDone result code tag word0 word1 time) => statusLayout 2 lap result.code code tag word0 word1 time
  | .notice n =>
    let f := noticeFields n.body
    statusLayout 3 lap f.1 f.2.1 0#32 f.2.2 0#64 n.time

/-- The 64-byte link status block (R36, section 12.6). -/
def linkStatusBlock (k : Link) : List Byte :=
  leBytes 1 k.mode.code ++ leBytes 1 k.mode.targetCode ++ leBytes 1 k.score ++ leBytes 1 k.health.code
    ++ leBytes 1 (k.probation.isSome.toNat + 2 * k.stuck.toNat + 4 * k.deferral.toNat) ++ leBytes 1 (k.probation.getD 0)
    ++ leBytes 2 k.config.bitTime ++ leBytes 1 (recoveryPolicyCode k.config.recoveryPolicy) ++ leBytes 1 (isolateActionCode k.config.isolateAction)
    ++ leBytes 1 (reportMaskCode k.config.reportMask) ++ leBytes 1 (unmatchedCode k.config.unmatchedQueue)
    ++ leBytes 1 k.config.forwardRetries ++ List.replicate 3 0#8 ++ leBytes 4 k.config.forwardLifetime
    ++ leBytes 4 k.counters.rxIntact.toNat ++ leBytes 4 k.counters.rxError.toNat ++ leBytes 4 k.counters.txAcked.toNat
    ++ leBytes 4 k.counters.txFailedAttempts.toNat ++ leBytes 4 k.counters.dropNoSlot.toNat
    ++ leBytes 4 k.counters.dropInputFull.toNat ++ leBytes 4 k.counters.dropUnmatched.toNat
    ++ leBytes 4 k.counters.dropByRule.toNat ++ leBytes 4 k.counters.forwardDropFull.toNat
    ++ leBytes 4 k.counters.forwardDropDown.toNat ++ List.replicate 4 0#8

/-- The 48-byte cyclic status block; `length` is the template's payload length, absent in EMPTY (R125, section 12.6). -/
def cyclicStatusBlock (e : ScheduleEntry) (length : Option Nat) : List Byte :=
  leBytes 1 e.state.code ++ leBytes 1 e.link.val ++ leBytes 2 e.key.toNat ++ leBytes 2 e.period ++ leBytes 2 e.phase
    ++ leBytes 1 (overrunPolicyCode e.policy) ++ leBytes 1 e.budget ++ leBytes 1 (length.getD 0xFF) ++ leBytes 1 e.seq.toNat
    ++ leBytes 1 (e.outstanding.toNat + 2 * e.nextDue.isSome.toNat) ++ List.replicate 3 0#8
    ++ leBytes 4 ((e.nextDue.map (·.toNat)).getD 0)
    ++ leBytes 2 e.counters.emitted ++ leBytes 2 e.counters.sent ++ leBytes 2 e.counters.expired
    ++ leBytes 2 e.counters.failed ++ leBytes 2 e.counters.dropped ++ leBytes 2 e.counters.skipped
    ++ leBytes 2 e.counters.replaced ++ List.replicate 14 0#8

end Sys2Proof.Machine
end

