-- ==== Sys2Proof/Machine/Flags.lean ====
section
/-! DEFINITION. The flags the block computes: the health band of a fault score, reached times, saturating counts, the
interrupt causes and line, and what the registers of the window read. -/

namespace Sys2Proof.Machine

/-- The health band of a fault score (R24). -/
def healthOf (score : Nat) : Health :=
  if score < Config.cautionScore then .good else if score < Config.mutedScore then .caution else .muted

/-- Time `t` is reached at device time `now`: their modular difference is less than 2^31 (R164). -/
def reached (now t : Time) : Bool := (now - t).toNat < 2 ^ 31

/-- A later time, modulo 2^32 (R164). -/
def timeAfter (t : Time) (micros : Nat) : Time := t + BitVec.ofNat 32 micros

/-- A counter that stays at its limit (section 1.8). -/
def saturatingSucc (limit n : Nat) : Nat := if n < limit then n + 1 else limit

/-- A fault score raised by a weight, saturating at 255 (R23). -/
def scoreUp (score by' : Nat) : Nat := min (score + by') Config.maxScore

/-! ## Interrupt causes (R163): IRQ bits 0 ATTACH, 1 STATUS, 2 DELIVERY, 3 FAULT -/

/-- The ATTACH cause. -/
def causeAttach : BitVec 4 := 1#4
/-- The STATUS cause. -/
def causeStatus : BitVec 4 := 2#4
/-- The DELIVERY cause. -/
def causeDelivery : BitVec 4 := 4#4
/-- The FAULT cause. -/
def causeFault : BitVec 4 := 8#4

/-- The interrupt line: asserted while at least one cause is set whose enable is set (R163). -/
def irqLine (h : HostSide) : Bool := (h.causes &&& h.enables) != 0#4

/-- A cause is set whatever its enable; setting a set cause leaves it set (R163). -/
def raiseCause (c : BitVec 4) (h : HostSide) : HostSide := { h with causes := h.causes ||| c }

/-! ## What the registers read (R159, R161) -/

/-- STATE bits 2-0. -/
def HostState.code : HostState → Nat
  | .detached => 0
  | .attaching => 1
  | .attached => 2
  | .detaching => 3
  | .faulted => 4

/-- STATE bits 9-8. -/
def LastCause.code : LastCause → Nat
  | .none => 0
  | .badControlBlock => 1
  | .hostFault => 2
  | .stqFault => 3

/-- STATE bit 16. -/
def LastReset.code : LastReset → Nat
  | .power => 0
  | .device => 1

/-- The STATE register (R159, R161). -/
def stateRegister (h : HostSide) : BitVec 32 :=
  BitVec.ofNat 32 (h.state.code + 2 ^ 8 * h.lastCause.code + 2 ^ 16 * h.lastReset.code)

/-- What a read of a register returns at this moment; a read changes nothing (R159; log 25). -/
def readRegister (r : Register) (s : State) : BitVec 32 :=
  match r with
  | .ident => Config.ident
  | .control => s.host.enables.setWidth 32 <<< 8
  | .state => stateRegister s.host
  | .cbaLo => s.host.cbaLo
  | .cbaHi => s.host.cbaHi
  | .kick => 0#32
  | .irq => s.host.causes.setWidth 32
  | .time => s.time

/-- The offset of a register in the window (R159). -/
def registerOffset : Register → Nat
  | .ident => 0x00
  | .control => 0x04
  | .state => 0x08
  | .cbaLo => 0x0C
  | .cbaHi => 0x10
  | .kick => 0x14
  | .irq => 0x18
  | .time => 0x1C

/-- The register at an offset of the window, if there is one (R159). -/
def registerAt (offset : Nat) : Option Register :=
  [Register.ident, .control, .state, .cbaLo, .cbaHi, .kick, .irq, .time].find? fun r => registerOffset r = offset

/-- What a 32-bit read at an offset of the window returns (R159); the device answers only at the offsets of its registers. -/
def readRegisterAt (offset : Nat) (s : State) : Option (BitVec 32) := (registerAt offset).map fun r => readRegister r s

/-- The control-block address (R127, R159). -/
def controlBlockAddress (h : HostSide) : HostAddress := h.cbaHi ++ h.cbaLo

end Sys2Proof.Machine
end

