-- ==== Sys2Proof/Machine/Bus.lean ====
section
/-! DEFINITION. The frame on the bus (R1-R10): the bits a sender puts on the line, stuffing and the check, and how a receiver
and a sender judge the samples of the line. A sample or bit is `true` for recessive and `false` for dominant. -/

namespace Sys2Proof.Machine

/-! ## The bits of a frame (R1, R2, R4) -/

/-- The low `n` bits of a number, most significant first (R1). -/
def msbBits : Nat → Nat → Line
  | 0, _ => []
  | n + 1, v => v.testBit n :: msbBits n v

/-- The number that bits spell, most significant first. -/
def bitsNat (bs : Line) : Nat := bs.foldl (fun acc b => 2 * acc + b.toNat) 0

/-- One step of the cyclic check: generator x^16 + x^12 + x^5 + 1 (R4). -/
def checkStep (reg : BitVec 16) (b : Bool) : BitVec 16 :=
  if reg.msb != b then (reg <<< 1) ^^^ 0x1021#16 else reg <<< 1

/-- The check over bits in transmission order; the register starts at FFFFh (R4). -/
def checkOf (bits : Line) : BitVec 16 := bits.foldl checkStep 0xFFFF#16

/-- Key, sequence, length and payload in transmission order: what the check covers (R1, R4; log 7). -/
def contentBits (key : Key) (seq : Seq) (payload : List Byte) : Line :=
  msbBits 16 key.toNat ++ msbBits 4 seq.toNat ++ msbBits 7 payload.length ++ payload.flatMap (fun b => msbBits 8 b.toNat)

/-- Start mark, content and check, before stuffing (R1). -/
def frameBits (key : Key) (seq : Seq) (payload : List Byte) : Line :=
  let content := contentBits key seq payload
  false :: (content ++ msbBits 16 (checkOf content).toNat)

/-- The length of the run of equal bits that a next bit makes, after a run of `run` bits equal to `last` (R2). -/
def runAfter (last : Bool) (run : Nat) (b : Bool) : Nat := if b = last then run + 1 else 1

/-- Stuffing: after every run of five equal bits a bit of the opposite value, itself the first of the next run (R2). -/
def stuffFrom (last : Bool) (run : Nat) : Line → Line
  | [] => []
  | b :: bs =>
    if runAfter last run b = 5 then b :: (!b) :: stuffFrom (!b) 1 bs
    else b :: stuffFrom b (runAfter last run b) bs

/-- A line with stuffing bits, from its first bit. -/
def stuff (bits : Line) : Line := stuffFrom true 0 bits

/-- What a sender drives for a frame: the stuffed part, a recessive acknowledge slot and seven recessive bits of end
delimiter (R1, R2). -/
def sentLine (key : Key) (seq : Seq) (payload : List Byte) : Line :=
  stuff (frameBits key seq payload) ++ List.replicate 8 true

/-- The bit-times from the start mark through the last key bit, stuffing bits within them counted: the key field's end. A
stuffing bit that follows the last key bit is not in the key field (log 7). -/
def keyFieldEnd (key : Key) : Nat :=
  (stuff (false :: (msbBits 16 key.toNat).dropLast)).length + 1

/-! ## How an error ends a frame (R5, R7, R8, R10) -/

/-- How a controller judges the rest of a frame once an error is detected or a dominant run is to be classified.
`ε` is the kind of error. -/
inductive Tail (ε : Type) where
  /-- a dominant run of this length inside the frame, not yet classified (R7) -/
  | run (dominant : Nat)
  /-- an error of this kind; recessive bit-times since it, and the present dominant run (R5) -/
  | wait (kind : ε) (recessive dominant : Nat)
  /-- the end is taken at the last sample, with this kind -/
  | ended (kind : ε)
  /-- samples go on past the end -/
  | over
  deriving DecidableEq, Repr

/-- One sample after an error or within a dominant run. A run of 10-31 that ends is an abort mark, a shorter one is `short`;
the 32nd dominant bit-time ends the frame as `short`. After an error the tenth consecutive recessive bit-time ends it, or the
32nd bit-time of a dominant run (R5, R7, R8). -/
def Tail.next {ε : Type} (abort short : ε) (t : Tail ε) (b : Bool) : Tail ε :=
  match t with
  | .run n =>
    if b then .wait (if Config.abortRunBits ≤ n then abort else short) 1 0
    else if n + 1 = Config.longRunBits then .ended short
    else .run (n + 1)
  | .wait kind r d =>
    if b then (if r + 1 = Config.errorIdleBits then .ended kind else .wait kind (r + 1) 0)
    else if d + 1 = Config.longRunBits then .ended kind
    else .wait kind 0 (d + 1)
  | .ended _ => .over
  | .over => .over

/-! ## The receiver (R7, R8) -/

/-- What a receiver is doing. -/
inductive RxPhase where
  /-- the stuffed part: start mark through check, and a stuffing bit that may follow the last check bit -/
  | body
  /-- the acknowledge slot comes next -/
  | ack
  /-- this many recessive bits of the end delimiter have been taken -/
  | delimiter (n : Nat)
  /-- the last bit of the end delimiter was taken and no error was seen -/
  | intact
  /-- an error, or a dominant run to be classified -/
  | tail (t : Tail ReceptionError)
  /-- samples go on past an INTACT end -/
  | over
  deriving DecidableEq, Repr

/-- A receiver following a frame: the frame bits taken (stuffing removed, newest first), the last sample and its run, and
whether a dominant stuffing violation was the first sign of an error (R7). -/
structure Rx where
  bits : Line
  last : Bool
  run : Nat
  violation : Bool
  phase : RxPhase
  deriving DecidableEq, Repr

/-- A receiver before the start mark. -/
def Rx.start : Rx := { bits := [], last := true, run := 0, violation := false, phase := .body }

/-- The announced length, once the Length field is complete (28 frame bits: start mark, key, sequence, length) (R1). -/
def announcedLength (bits : Line) : Nat := bitsNat ((bits.drop 21).take 7)

/-- The number of frame bits from the start mark through the check for an announced length (R1). -/
def bodyLength (length : Nat) : Nat := 44 + 8 * length

/-- The received check agrees with the one computed over the received bits (R4). -/
def checkAgrees (bits : Line) (length : Nat) : Bool :=
  msbBits 16 (checkOf ((bits.drop 1).take (27 + 8 * length))).toNat == bits.drop (28 + 8 * length)

/-- After a frame bit has been taken: LENGTH is detected at the last bit of the Length field, CHECK at the last check bit
(R8); the frame goes on to the acknowledge slot, first taking a stuffing bit if one is due (R2). -/
def Rx.afterBit (rx : Rx) : Rx :=
  let bits := rx.bits.reverse
  let dominant := if rx.last then 0 else rx.run
  if bits.length < 28 then rx
  else
    let length := announcedLength bits
    if 64 < length then { rx with phase := .tail (.wait .length 0 dominant) }
    else if bits.length < bodyLength length then rx
    else if !checkAgrees bits length then { rx with phase := .tail (.wait .check 0 dominant) }
    else if rx.run = 5 then rx
    else { rx with phase := .ack }

/-- The body is complete and only a stuffing bit was still due. -/
def Rx.bodyComplete (rx : Rx) : Bool :=
  28 ≤ rx.bits.length && rx.bits.length == bodyLength (announcedLength rx.bits.reverse)

/-- One sample of the line (R2, R7, R8). -/
def Rx.next (rx : Rx) (b : Bool) : Rx :=
  let run := runAfter rx.last rx.run b
  match rx.phase with
  | .body =>
    if rx.run = 5 then
      if b = rx.last then
        { rx with run := run, violation := !b, phase := if b then .tail (.wait .form 0 0) else .tail (.run run) }
      else { rx with last := b, run := 1, phase := if rx.bodyComplete then .ack else .body }
    else Rx.afterBit { rx with bits := b :: rx.bits, last := b, run := run }
  | .ack => { rx with last := b, run := run, phase := .delimiter 0 }
  | .delimiter n =>
    { rx with last := b, run := run,
              phase := if b then (if n + 1 = 7 then .intact else .delimiter (n + 1)) else .tail (.run run) }
  | .intact => { rx with phase := .over }
  | .tail t => { rx with phase := .tail (t.next .abortSeen .form b) }
  | .over => rx

/-- The outcomes of a reception (R8); an INTACT one with the frame's key, sequence and payload. -/
inductive ReceptionOutcome where
  | intact (key : Key) (seq : Seq) (payload : List Byte)
  | error (kind : ReceptionError)
  deriving DecidableEq, Repr

/-- The bytes that bits spell, eight bits a byte, most significant first. -/
def bytesOfBits : Nat → Line → List Byte
  | 0, _ => []
  | n + 1, bs => BitVec.ofNat 8 (bitsNat (bs.take 8)) :: bytesOfBits n (bs.drop 8)

/-- The frame that the frame bits of an INTACT reception spell (R1). -/
def frameOfBits (bits : Line) : ReceptionOutcome :=
  .intact (BitVec.ofNat 16 (bitsNat ((bits.drop 1).take 16))) (BitVec.ofNat 4 (bitsNat ((bits.drop 17).take 4)))
    (bytesOfBits (announcedLength bits) (bits.drop 28))

/-- An end that a receiver's last sample reaches is not taken, and the judgement of the error goes on (log 44). -/
def Rx.resume (rx : Rx) : Rx :=
  { rx with phase := match rx.phase with
      | .tail (.ended kind) => .tail (.wait kind 0 0)
      | phase => phase }

/-- A receiver after the samples that opened its reception: a start mark, or the bits received until contention was lost (R5, R8). No end
is taken within them, since until then no reception was in progress (log 44). -/
def Rx.opened (opening : Line) : Rx := opening.foldl (fun rx b => (rx.next b).resume) Rx.start

/-- The outcome of a reception that these samples opened, at the last of the samples that follow; absent unless the end is taken exactly
there (R5, R8). -/
def receptionEnds (opening line : Line) : Option ReceptionOutcome :=
  let rx := line.foldl Rx.next (Rx.opened opening)
  match rx.phase with
  | .intact => some (frameOfBits rx.bits.reverse)
  | .tail (.ended kind) => some (.error kind)
  | _ => none

/-- The outcome of a reception whose samples, from its start mark on, are these; absent unless the end is taken exactly at the
last sample (R8). -/
def receptionOutcome (line : Line) : Option ReceptionOutcome := receptionEnds [] line

/-! ## The sender (R10) -/

/-- What a sender is doing; `keyLeft` bit-times of the key field are left, `left` is what it has still to drive. -/
inductive TxPhase where
  /-- the start mark is being driven; it lies outside the key field (R1, R10) -/
  | startMark (keyLeft : Nat) (left : Line)
  | sending (keyLeft : Nat) (left : Line) (acked : Bool)
  /-- the last bit of the end delimiter was read recessive -/
  | completed (acked : Bool)
  | tail (t : Tail AttemptOutcome)
  /-- contention was lost at the last sample -/
  | lost
  /-- samples go on past the end, or past the loss of contention -/
  | over
  deriving DecidableEq, Repr

/-- A sender: what it is doing, the last sample and its run. -/
structure Tx where
  phase : TxPhase
  last : Bool
  run : Nat
  deriving DecidableEq, Repr

/-- A sender that is about to drive its start mark (R10). `key` is the effective key. -/
def Tx.start (key : Key) (seq : Seq) (payload : List Byte) : Tx :=
  { phase := .startMark (keyFieldEnd key - 1) (sentLine key seq payload).tail, last := true, run := 0 }

/-- One sample read while sending. A start mark read recessive is an echo difference (R10). In the key field only a dominant read
where recessive was sent matters, and loses contention (R5; log 9). The acknowledge slot is read when eight bits are left to drive. Elsewhere every difference is an echo
difference or a dominant run to be classified (R10). -/
def Tx.next (tx : Tx) (b : Bool) : Tx :=
  let run := runAfter tx.last tx.run b
  let phase : TxPhase :=
    match tx.phase with
    | .startMark keyLeft left => if b then .tail (.wait .echo 0 0) else .sending keyLeft left false
    | .sending keyLeft left acked =>
      match left with
      | [] => .over
      | sent :: rest =>
        if 0 < keyLeft then (if sent && !b then .lost else .sending (keyLeft - 1) rest acked)
        else if rest.length = 7 then .sending 0 rest (!b)
        else if sent = b then (if rest = [] then .completed acked else .sending 0 rest acked)
        else if b then .tail (.wait .echo 0 0)
        else .tail (.run run)
    | .completed _ => .over
    | .tail t => .tail (t.next .abortSeen .echo b)
    | .lost => .over
    | .over => .over
  { phase := phase, last := b, run := run }

/-- The outcome of an attempt at this frame whose samples, from its start mark on, are these; absent unless the attempt's end is
taken exactly at the last sample (R10). -/
def attemptOutcome (key : Key) (seq : Seq) (payload : List Byte) (line : Line) : Option AttemptOutcome :=
  match (line.foldl Tx.next (Tx.start key seq payload)).phase with
  | .completed acked => some (if acked then .acked else .unacked)
  | .tail (.ended kind) => some kind
  | _ => none

/-- The device, sending this frame, loses contention exactly at the last of these samples, read from its start mark on: in the key field
it sent recessive there and read dominant, for the first time (R5). -/
def losesContention (key : Key) (seq : Seq) (payload : List Byte) (line : Line) : Bool :=
  (line.foldl Tx.next (Tx.start key seq payload)).phase == .lost

/-! ## Run counts (R6, R15) -/

/-- The recessive samples at the end of a line, added to `before` when the line is all recessive. -/
def trailingRun (value : Bool) (before : Nat) (line : Line) : Nat :=
  line.foldl (fun n b => if b = value then n + 1 else 0) before

/-! ## What the device drives while it receives (R7, R9)

These are outputs at the transmit pin, functions of the state at the bit-time in question. -/

/-- Acknowledgement and abort marks need ONLINE with health GOOD or CAUTION (R7, R9, R13). -/
def Link.takesPart (k : Link) : Bool := k.mode == .online && k.health != .muted

/-- The device drives the acknowledge slot dominant: the samples so far have brought a receiver to the slot with the check
agreed and no error (R9). -/
def Link.acknowledges (k : Link) (line : Line) : Bool :=
  k.takesPart && (line.foldl Rx.next Rx.start).phase == .ack

/-- A receiver has an error whose kind is settled and which is its own, not an abort mark seen (R7, R8). -/
def RxPhase.ownError : RxPhase → Bool
  | .tail (.wait kind _ _) => kind != .abortSeen
  | _ => false

/-- A sender has an echo error whose kind is settled (R10). -/
def TxPhase.ownError : TxPhase → Bool
  | .tail (.wait kind _ _) => kind == .echo
  | _ => false

/-- The device, receiving, starts an abort mark at the next bit-time: the last sample settled an error of its own whose first
sign was not a dominant stuffing violation (R7). For LENGTH and CHECK that is the bit-time after the last bit of the field, which
R8 calls the bit after the Length field and the acknowledge slot; with a stuffing bit due there the two rules differ, and the mark
starts in the stuffing bit's place (log 28). A dominant run of the end delimiter that reaches 32 bit-times is FORM and no stuffing
violation, but ends the frame at that bit-time (R8), and no mark is started there (log 39). An error that the bits received before a loss
of contention already show starts none: the device was the sender at that bit-time, and was comparing key bits (log 44). -/
def Link.receiverStartsAbortMark (k : Link) (line : Line) : Bool :=
  let now := line.foldl Rx.next Rx.start
  let before := line.dropLast.foldl Rx.next Rx.start
  k.takesPart && now.phase.ownError && !before.phase.ownError && !now.violation

/-- The device, sending this frame, starts an abort mark at the next bit-time: the last sample was an echo difference, or the
recessive bit that ended a short dominant run (R10), though the run began at a stuffing bit and so was a dominant stuffing violation
(R7; log 38). `line` is the samples from the start mark on. -/
def Link.senderStartsAbortMark (k : Link) (key : Key) (seq : Seq) (payload : List Byte) (line : Line) : Bool :=
  let now := line.foldl Tx.next (Tx.start key seq payload)
  let before := line.dropLast.foldl Tx.next (Tx.start key seq payload)
  k.takesPart && now.phase.ownError && !before.phase.ownError

/-- An abort mark: 12 consecutive dominant bit-times (R7). -/
def abortMark : Line := List.replicate Config.abortMarkBits false

/-- What the device, receiving, drives in the bit-times after these samples by way of an abort mark: all of one, or nothing (R7). Entry
to OFFLINE releases the transmit pin whatever is being driven (R13, R14). -/
def Link.receiverAbortMark (k : Link) (line : Line) : Line := if k.receiverStartsAbortMark line then abortMark else []

/-- What the device, sending this frame, drives in the bit-times after these samples by way of an abort mark (R7, R10). -/
def Link.senderAbortMark (k : Link) (key : Key) (seq : Seq) (payload : List Byte) (line : Line) : Line :=
  if k.senderStartsAbortMark key seq payload line then abortMark else []

end Sys2Proof.Machine
end

