-- ==== Sys2Proof/Machine/Ops.lean ====
section
/-! DEFINITION. The operations the blocks share: reading and updating the numbered things, slots and references, status
credits, fetches, egress places, completions, notices, queue faults and the teardown of the host side. -/

namespace Sys2Proof.Machine

/-- What a happening answers. -/
abbrev Result := Host.Outcome State Fault Refusal

/-- One member of a numbered collection changed. -/
def update {α : Type} {n : Nat} (v : Vector α n) (i : Fin n) (f : α → α) : Vector α n :=
  v.set i.val (f v[i.val]) i.isLt

/-! ## Reading and changing the numbered things -/

/-- The link controller of a link. -/
def State.link (s : State) (l : LinkId) : Link := s.links[l.val]
/-- A change of one link controller. -/
def State.modLink (l : LinkId) (f : Link → Link) (s : State) : State := { s with links := update s.links l f }
/-- The egress set of a link. -/
def State.set (s : State) (l : LinkId) : EgressSet := s.egress[l.val]
/-- A change of one egress set. -/
def State.modSet (l : LinkId) (f : EgressSet → EgressSet) (s : State) : State := { s with egress := update s.egress l f }
/-- The context of a queue. -/
def State.queue (s : State) (q : QueueId) : Queue := s.queues[q.val]
/-- A change of one queue context. -/
def State.modQueue (q : QueueId) (f : Queue → Queue) (s : State) : State := { s with queues := update s.queues q f }
/-- The delivery writer of a delivery queue. -/
def State.writer (s : State) (d : DeliveryId) : DeliveryWriter := s.delivery[d.val]
/-- A change of one delivery writer. -/
def State.modWriter (d : DeliveryId) (f : DeliveryWriter → DeliveryWriter) (s : State) : State :=
  { s with delivery := update s.delivery d f }
/-- The send fetcher of a send queue. -/
def State.fetcher (s : State) (l : LinkId) : Fetcher := s.fetchers[l.val]
/-- A change of one send fetcher. -/
def State.modFetcher (l : LinkId) (f : Fetcher → Fetcher) (s : State) : State := { s with fetchers := update s.fetchers l f }
/-- A mailbox. -/
def State.mailbox (s : State) (m : MailboxId) : Mailbox := s.mailboxes[m.val]
/-- A change of one mailbox. -/
def State.modMailbox (m : MailboxId) (f : Mailbox → Mailbox) (s : State) : State :=
  { s with mailboxes := update s.mailboxes m f }
/-- A schedule entry. -/
def State.entry (s : State) (e : ScheduleId) : ScheduleEntry := s.schedule[e.val]
/-- A change of one schedule entry. -/
def State.modEntry (e : ScheduleId) (f : ScheduleEntry → ScheduleEntry) (s : State) : State :=
  { s with schedule := update s.schedule e f }
/-- A slot of the frame store. -/
def State.slot (s : State) (i : SlotId) : Slot := s.store.slots[i.val]
/-- A change of one slot. -/
def State.modSlot (i : SlotId) (f : Slot → Slot) (s : State) : State :=
  { s with store := { s.store with slots := update s.store.slots i f } }
/-- A twin group. -/
def State.group (s : State) (g : GroupId) : TwinGroup := s.twin.groups[g.val]
/-- A change of one twin group. -/
def State.modGroup (g : GroupId) (f : TwinGroup → TwinGroup) (s : State) : State :=
  { s with twin := { s.twin with groups := update s.twin.groups g f } }

/-- Queue number of CQ. -/
def cq : QueueId := 0
/-- Queue number of STQ. -/
def stq : QueueId := 13
/-- Queue number of SQn, bound to link Ln (R133). -/
def sq (l : LinkId) : QueueId := ⟨l.val + 1, by omega⟩
/-- Queue number of DQn. -/
def dq (d : DeliveryId) : QueueId := ⟨d.val + 5, by omega⟩

/-- What a queue number names. -/
inductive QueueKind where
  | command
  | send (l : LinkId)
  | delivery (d : DeliveryId)
  | status
  deriving DecidableEq, Repr

/-- The queue a queue number names (R159). -/
def queueKind (q : QueueId) : QueueKind :=
  if q.val = 0 then .command
  else if h : q.val < 5 then .send ⟨q.val - 1, by omega⟩
  else if h' : q.val < 13 then .delivery ⟨q.val - 5, by omega⟩
  else .status

/-- All four links in ascending order. -/
def allLinks : List LinkId := [0, 1, 2, 3]
/-- All eight delivery queues in ascending order. -/
def allDeliveries : List DeliveryId := [0, 1, 2, 3, 4, 5, 6, 7]
/-- All fourteen queues in ascending order. -/
def allQueues : List QueueId := [0, 1, 2, 3, 4, 5, 6, 7, 8, 9, 10, 11, 12, 13]

/-- The device is ATTACHED. -/
def State.attached (s : State) : Bool := s.host.state == .attached

/-! ## Notices posted and completions handed -/

/-- A notice is posted to the host interface, which takes it in a happening of its own (R137; log 15). -/
def post (body : NoticeBody) (s : State) : State := { s with posted := s.posted ++ [{ body := body, time := s.time }] }

/-- A notice posted only if its report_mask bit is set (R34). -/
def postIf (bit : Bool) (body : NoticeBody) (s : State) : State := if bit then post body s else s

/-- A completion is handed to the status writer, which discards it unless the device is ATTACHED (R136, R142, R143). -/
def handCompletion (c : Completion) (s : State) : State :=
  if s.attached then { s with status := { s.status with completions := s.status.completions ++ [c] } } else s

/-! ## Rings and credits (R128, R131) -/

/-- Records available to the device in a producer ring (R128). -/
def Queue.available (q : Queue) : Nat := (q.known + q.desc.size - q.device) % q.desc.size
/-- Records written and not yet consumed, as last learned, in a consumer ring (R128). -/
def Queue.written (q : Queue) : Nat := (q.device + q.desc.size - q.known) % q.desc.size
/-- An index advanced by one modulo the size (R128). -/
def Queue.advanced (q : Queue) : Nat := (q.device + 1) % q.desc.size
/-- The ring is full as last learned (R128). -/
def Queue.full (q : Queue) : Bool := q.advanced == q.known
/-- The free space of a consumer ring (R128). -/
def Queue.freeSpace (q : Queue) : Nat := q.desc.size - 1 - q.written

/-- The unit of free space that a notice under write has taken without a reservation (R136; log 14). -/
def StatusWriter.noticeUnit (w : StatusWriter) : Nat :=
  match w.stage, w.current with
  | .record, some (.notice _) => 1
  | _, _ => 0

/-- Credits: free space of the status ring minus the reserved count (R131). -/
def State.credits (s : State) : Nat := (s.queue stq).freeSpace - s.status.noticeUnit - s.status.reserved

/-- A requester that has been granted its credit goes on: the command unit reads its record, a fetcher makes its next claim
(R132, R133). -/
def proceedWithCredit (r : Requester) (s : State) : State :=
  match r with
  | .commandUnit => { s with unit := { s.unit with stage := .reading } }
  | .fetcher l => s.modFetcher l fun f => { f with stage := .slot }

/-- One credit is reserved for a requester (R131). -/
def grantCredit (r : Requester) (s : State) : State :=
  proceedWithCredit r { s with status := { s.status with reserved := s.status.reserved + 1 } }

/-- Credits are granted to waiters from the head for as long as credits remain (R131). -/
def grantWaiters : List Requester → State → State
  | [], s => { s with status := { s.status with waiters := [] } }
  | r :: rest, s =>
    if 0 < s.credits then grantWaiters rest (grantCredit r s)
    else { s with status := { s.status with waiters := r :: rest } }

/-- Credits have risen: the credit waiters are served (R131). -/
def serveCredits (s : State) : State := grantWaiters s.status.waiters s

/-- A reservation ends without being used: returned or released (R131). -/
def giveBackCredit (s : State) : State :=
  serveCredits { s with status := { s.status with reserved := s.status.reserved - 1 } }

/-- A requester leaves the credit waiters without a grant (R131). -/
def leaveCreditWaiters (r : Requester) (s : State) : State :=
  { s with status := { s.status with waiters := s.status.waiters.filter (· != r) } }

/-! ## Slots and references (R38-R41, R43) -/

/-- The number of FREE slots (R37). -/
def Store.freeCount (st : Store) : Nat := st.slots.toList.countP (fun x => x.count == 0)

/-- The lowest-numbered FREE slot (R41). -/
def State.lowestFree (s : State) : Option SlotId := (List.finRange 384).find? fun i => (s.slot i).count == 0

/-- A grant of a FREE slot: it becomes HELD with count 1 (R41). -/
def grantSlot (i : SlotId) (s : State) : State := s.modSlot i fun x => { x with count := 1 }

/-- The holder of a grant fills the slot's frame fields (R45). -/
def fillSlot (i : SlotId) (f : Frame) (s : State) : State := s.modSlot i fun x => { x with frame := f }

/-- A reference is added to a HELD slot (R39). -/
def addReference (i : SlotId) (s : State) : State := s.modSlot i fun x => { x with count := x.count + 1 }

/-- A waiting fetcher is granted a freed slot: it leaves the wait list with the slot as its claim (R40, R43). -/
def grantToFetcher (l : LinkId) (i : SlotId) (s : State) : State :=
  s.modFetcher l fun f => { f with stage := .place, slot := some i }

/-- A holder releases its reference (R40): the count falls by one; a slot that would reach 0 becomes FREE, or passes at once to
the fetcher at the head of the wait list with count 1. -/
def releaseSlot (i : SlotId) (s : State) : State :=
  if (s.slot i).count = 1 then
    match s.store.waiters with
    | [] => s.modSlot i fun x => { x with count := 0 }
    | l :: rest => grantToFetcher l i { s with store := { s.store with waiters := rest } }
  else s.modSlot i fun x => { x with count := x.count - 1 }

/-- Several references released one at a time (R40). -/
def releaseSlots (is : List SlotId) (s : State) : State := is.foldl (fun s i => releaseSlot i s) s

/-- A fetcher leaves the store's wait list without a grant (R43). -/
def leaveSlotWaiters (l : LinkId) (s : State) : State :=
  { s with store := { s.store with waiters := s.store.waiters.filter (· != l) } }

/-! ## Places in an egress set (R94, R97) -/

/-- The occupancy of a set: pending entries, an entry in flight, a reserved place (R94). -/
def EgressSet.occupancy (x : EgressSet) : Nat := x.pending.length + x.inFlight.isSome.toNat + x.reserved.toNat

/-- A freed place passes directly to a waiting fetcher, whose read then starts; with none waiting it lowers the occupancy
(R97, R133). -/
def passPlace (l : LinkId) (s : State) : State :=
  if (s.set l).waiting then
    (s.modSet l fun x => { x with waiting := false, reserved := true }).modFetcher l fun f => { f with stage := .reading }
  else s

/-- A reserved place is released (R97). -/
def releasePlace (l : LinkId) (s : State) : State := passPlace l (s.modSet l fun x => { x with reserved := false })

/-- An entry stands before another in the order of R96: lower effective key, or equal key and lower admission number. -/
def Entry.before (a b : Entry) : Bool := a.key < b.key || (a.key == b.key && a.admission < b.admission)

/-- An entry put at its place in the pending order (R96). -/
def insertEntry (e : Entry) : List Entry → List Entry
  | [] => [e]
  | x :: xs => if e.before x then e :: x :: xs else x :: insertEntry e xs

/-- An admission: the entry takes the present value of the admission counter, which advances, and joins the set (R96). -/
def EgressSet.insert (e : Entry) (x : EgressSet) : EgressSet :=
  { x with pending := insertEntry { e with admission := x.counter } x.pending, counter := x.counter + 1#48 }

/-- An entry returned to the pending order keeps its admission number (R96). -/
def EgressSet.putBack (e : Entry) (x : EgressSet) : EgressSet := { x with pending := insertEntry e x.pending }

/-- The link refuses admissions: OFFLINE, or ISOLATED under FLUSH (R18). -/
def Link.refusesAdmission (k : Link) : Bool :=
  k.mode == .offline || (k.mode == .isolated && k.config.isolateAction == .flush)

/-- A deadline is present and reached (R107). -/
def Entry.expired (e : Entry) (now : Time) : Bool :=
  match e.deadline with
  | some t => reached now t
  | none => false

/-! ## Link counters (R35) -/

/-- A change of the counters of a link. -/
def count (l : LinkId) (f : LinkCounters → LinkCounters) (s : State) : State :=
  s.modLink l fun k => { k with counters := f k.counters }

/-- forward_drop_down of a link rises by one (R35). -/
def countForwardDropDown (l : LinkId) (s : State) : State :=
  count l (fun c => { c with forwardDropDown := c.forwardDropDown + 1#32 }) s
/-- forward_drop_full of a link rises by one (R35). -/
def countForwardDropFull (l : LinkId) (s : State) : State :=
  count l (fun c => { c with forwardDropFull := c.forwardDropFull + 1#32 }) s
/-- drop_input_full of a link rises by one (R35). -/
def countDropInputFull (l : LinkId) (s : State) : State :=
  count l (fun c => { c with dropInputFull := c.dropInputFull + 1#32 }) s

/-! ## The end of an egress entry (R104, R106) -/

/-- The end of a copy as the cyclic scheduler counts it (R106). -/
def SendOutcome.copyEnd : SendOutcome → CopyEnd
  | .sent => .sent
  | .failedUnacked => .failed
  | .failedEcho => .failed
  | .failedAbortSeen => .failed
  | .expired => .expired
  | .cancelled => .dropped
  | .flushed => .dropped
  | .linkDown => .dropped
  | .isolated => .dropped
  | .rejectedBadLength => .dropped
  | .rejectedBadField => .dropped

/-- The outcomes that count a FORWARD entry in forward_drop_down (R106). -/
def SendOutcome.dropsForward : SendOutcome → Bool
  | .cancelled => true
  | .flushed => true
  | .linkDown => true
  | .isolated => true
  | _ => false

/-- What the egress scheduler hands to the cyclic scheduler about an entry (R117, R121). -/
def handCyclic (e : ScheduleId) (m : CyclicMessage) (s : State) : State :=
  s.modEntry e fun x => { x with inbox := x.inbox ++ [m] }

/-- Step 3 of R106: the end is handed onward by origin. An orphaned entry hands no outcome (R113); a SILENT entry ended SENT
returns its credit instead of a completion (R104). -/
def handEnd (l : LinkId) (e : Entry) (outcome : SendOutcome) (s : State) : State :=
  match e.origin with
  | .host tag silent _ orphaned =>
    if orphaned then s
    else if silent && outcome == .sent then giveBackCredit s
    else handCompletion (.sendDone l tag outcome e.attempts s.time) s
  | .forward _ => if outcome.dropsForward then countForwardDropDown l s else s
  | .cyclic i => handCyclic i (.ended outcome.copyEnd) s

/-- The end of an entry that has left the set: its slot reference is released, its place freed and its end handed onward, in
that order (R106). -/
def endEntry (l : LinkId) (e : Entry) (outcome : SendOutcome) (s : State) : State :=
  handEnd l e outcome (passPlace l (releaseSlot e.slot s))

/-- Entries ended in set order with one outcome (R106). -/
def endEntries (l : LinkId) (es : List Entry) (outcome : SendOutcome) (s : State) : State :=
  es.foldl (fun s e => endEntry l e outcome s) s

/-- Every pending entry of a link is removed and ended in set order (R109, R111, R112). -/
def clearPending (l : LinkId) (outcome : SendOutcome) (s : State) : State :=
  endEntries l (s.set l).pending outcome (s.modSet l fun x => { x with pending := [] })

/-! ## Score, health and isolation (R23-R26, R28) -/

/-- The score is set and health recomputed; a change of health posts LINK_HEALTH under its bit, and leaving MUTED clears the
deferral flag (R24, R12). -/
def setScore (l : LinkId) (score : Nat) (s : State) : State :=
  let k := s.link l
  let new := healthOf score
  let s := s.modLink l fun k =>
    { k with score := score, health := new, deferral := k.deferral && (k.health != .muted || new == .muted) }
  if new = k.health then s else postIf k.config.reportMask.linkHealth (.linkHealth l k.health new score) s

/-- The mode is set; leaving ONLINE clears the deferral flag (R12, R20). -/
def setMode (l : LinkId) (m : Mode) (s : State) : State :=
  s.modLink l fun k => { k with mode := m, deferral := k.deferral && m == .online }

/-- A mode change made by the link itself posts LINK_STATE under its bit (R34). -/
def postLinkState (l : LinkId) (old new : Mode) (s : State) : State :=
  postIf (s.link l).config.reportMask.linkState (.linkState l old new) s

/-- Isolation (R25, R112): the mode, probation unless under MANUAL, the notice, and then the egress set by isolate_action. -/
def isolate (l : LinkId) (s : State) : State :=
  let cfg := (s.link l).config
  let s := setMode l .isolated s
  let s := s.modLink l fun k => { k with probation := if cfg.recoveryPolicy = .manual then none else some 0 }
  let s := postLinkState l .online .isolated s
  match cfg.isolateAction with
  | .hold => s
  | .flush => clearPending l .isolated s

/-- A score change taken in ONLINE: health follows, then the isolation check (R23, R24, R25). -/
def changeScore (l : LinkId) (score : Nat) (s : State) : State :=
  let old := (s.link l).score
  if score = old then s
  else
    let s := setScore l score s
    if old < score ∧ Config.isolationScore ≤ score then isolate l s else s

/-- Probation completes (R28): the mode the policy names, score 0, LINK_STATE and then LINK_HEALTH. -/
def completeProbation (l : LinkId) (s : State) : State :=
  let target : Mode := match (s.link l).config.recoveryPolicy with
    | .auto => .online
    | .hold => .suspended
    | .manual => .online
  let s := setMode l target s
  let s := s.modLink l fun k => { k with probation := none }
  setScore l 0 (postLinkState l .isolated target s)

/-- A clean observation while probation is running (R27, R28). -/
def observeClean (l : LinkId) (s : State) : State :=
  match (s.link l).probation with
  | none => s
  | some n =>
    if Config.probationGoal ≤ n + 1 then completeProbation l s
    else s.modLink l fun k => { k with probation := some (n + 1) }

/-! ## Send fetches (R133, R139, R140) -/

/-- A host access under way whose effect will be discarded, and the slot reference it keeps until it ends (R134, R142). -/
def discardAccess (a : HostAccess) (slot : Option SlotId) (s : State) : State :=
  { s with discarded := s.discarded ++ [{ access := a, slot := slot }] }

/-- The slot a fetch holds is released (R43). -/
def releaseFetchSlot (l : LinkId) (s : State) : State :=
  match (s.fetcher l).slot with
  | some i => releaseSlot i (s.modFetcher l fun f => { f with slot := none })
  | none => s

/-- A fetch that has not taken its record is withdrawn: it leaves every waiting position, a read under way ends with its record
not taken, and the credit, slot and place it holds are released (R139, R140). -/
def withdrawFetch (l : LinkId) (s : State) : State :=
  match (s.fetcher l).stage with
  | .none => s
  | .index => s
  | .credit => (leaveCreditWaiters (.fetcher l) s).modFetcher l fun f => { f with stage := .none }
  | .slot => giveBackCredit ((leaveSlotWaiters l s).modFetcher l fun f => { f with stage := .none })
  | .place =>
    giveBackCredit (releaseFetchSlot l
      ((s.modSet l fun x => { x with waiting := false }).modFetcher l fun f => { f with stage := .none }))
  | .reading =>
    giveBackCredit (releasePlace l (releaseFetchSlot l
      ((discardAccess (.sendRecord l) none s).modFetcher l fun f => { f with stage := .none })))

/-- An SQ device-word write under way ends with its effect discarded, and with it the fetch (R140, R142). -/
def dropSqWord (l : LinkId) (s : State) : State :=
  if (s.fetcher l).stage = .index then
    (discardAccess (.sqDeviceWord l) none s).modFetcher l fun f => { f with stage := .none }
  else s

/-- A record handed for admission and not yet taken is dropped with its slot and place: the host side is going down (R113,
R114; log 18). -/
def dropAdmission (l : LinkId) (s : State) : State :=
  match (s.fetcher l).admission with
  | some a => releasePlace l (releaseSlot a.slot (s.modFetcher l fun f => { f with admission := none }))
  | none => s

/-- A command fetch that has not taken its record is withdrawn (R139, R142, R143). -/
def withdrawCommandFetch (s : State) : State :=
  match s.unit.stage with
  | .credit => { (leaveCreditWaiters .commandUnit s) with unit := { s.unit with stage := .idle } }
  | .reading => giveBackCredit { (discardAccess .commandRecord none s) with unit := { s.unit with stage := .idle } }
  | _ => s

/-! ## Delivery writers (R134, R135) -/

/-- The backlog of a delivery writer is released at a fault, a disable, a detach or FAULTED. An entry whose write is still
outstanding leaves the backlog, and that write keeps its slot reference until it ends (R134, R142). The other references are released
head first, which settles the slot that each waiting fetcher is granted (log 40). -/
def dropBacklog (d : DeliveryId) (s : State) : State :=
  let w := s.writer d
  let s := s.modWriter d fun w => { w with backlog := [], stage := .idle }
  match w.stage, w.backlog with
  | .record, e :: rest =>
    releaseSlots (rest.map (·.slot)) (discardAccess (.deliveryRecord d) (some e.slot) s)
  | .index, e :: rest =>
    releaseSlots (rest.map (·.slot)) (discardAccess (.dqDeviceWord d) (some e.slot) s)
  | _, es => releaseSlots (es.map (·.slot)) s

/-- A refused append: the drop count rises, and with the arm set DELIVERY_DROPPED is posted and the arm cleared (R135). -/
def countDrop (d : DeliveryId) (s : State) : State :=
  let drops := (s.writer d).drops + 1#32
  if (s.writer d).arm then post (.deliveryDropped d drops) (s.modWriter d fun w => { w with drops := drops, arm := false })
  else s.modWriter d fun w => { w with drops := drops }

/-! ## Queues (R129, R130, R138, R139) -/

/-- An index read outstanding when its queue leaves ACTIVE, or the device leaves ATTACHED, ends with its value discarded (R130). -/
def dropIndexRead (q : QueueId) (s : State) : State :=
  if (s.queue q).reading then
    (discardAccess (.indexRead q) none s).modQueue q fun x => { x with reading := false, reread := false }
  else s.modQueue q fun x => { x with reread := false }

/-- The coalescing state at rest: nothing counted, no holdoff running (R138). -/
def Queue.clearCoalescing (x : Queue) : Queue := { x with counted := 0, holdoffEnd := none }

/-- The cause a queue raises: STATUS for the STQ, DELIVERY for a DQ (R138). -/
def queueCause (q : QueueId) : BitVec 4 := if q = stq then causeStatus else causeDelivery

/-- A queue raises its cause (R138, R163). -/
def raiseQueueCause (q : QueueId) (s : State) : State := { s with host := raiseCause (queueCause q) s.host }

/-- A record whose device-word write has ended is counted for coalescing (R138). A holdoff of 0 runs out at once (log 23). -/
def countRecord (q : QueueId) (s : State) : State :=
  let x := s.queue q
  if x.desc.interruptEnable then
    let counted := saturatingSucc Config.coalesceLimit x.counted
    let raises := x.desc.coalesce ≤ counted
    let holdoffEnd := if x.counted = 0 then some (timeAfter s.time x.desc.holdoff) else x.holdoffEnd
    let atOnce := x.counted = 0 ∧ x.desc.holdoff = 0
    let s := s.modQueue q fun x =>
      { x with counted := counted, holdoffEnd := if raises ∨ atOnce then none else holdoffEnd }
    if raises ∨ atOnce then raiseQueueCause q s else s
  else s

/-- What the fault of a queue takes with it: a fetch that has not taken its record, or a backlog (R139). -/
def dropQueueWork (q : QueueId) (s : State) : State :=
  match queueKind q with
  | .command => withdrawCommandFetch s
  | .send l => withdrawFetch l s
  | .delivery d => dropBacklog d s
  | .status => s

/-- A queue other than STQ faults (R139): FAULTED with its cause, its index read discarded, its coalescing cleared (R138), its
work dropped, and QUEUE_FAULT posted. A queue that is not ACTIVE does not fault again (log 19). -/
def faultQueue (q : QueueId) (cause : FaultCause) (s : State) : State :=
  if (s.queue q).state = .active then
    let s := dropIndexRead q s
    let s := s.modQueue q fun x => { x.clearCoalescing with state := .faulted, cause := some cause }
    post (.queueFault q cause) (dropQueueWork q s)
  else s

/-- A queue is loaded from its descriptor and set ACTIVE (R140, R141). -/
def loadQueue (q : QueueId) (d : Descriptor) (s : State) : State :=
  s.modQueue q fun _ =>
    { state := .active, cause := none, desc := d, known := 0, device := 0, reading := false, reread := false,
      counted := 0, holdoffEnd := none }

/-! ## Teardown of the host side (R142, R143) -/

/-- Fetching stops for good: no one waits for a credit, a slot or a place any more, and every fetch's claims are released. Waiting
positions are left first, so that every slot freed becomes FREE (R48, R142, R143). -/
def stopFetching (s : State) : State :=
  let s := { s with status := { s.status with waiters := [] }, store := { s.store with waiters := [] } }
  let s := allLinks.foldl (fun s l => s.modSet l fun x => { x with waiting := false }) s
  let s := allLinks.foldl (fun s l => dropAdmission l (dropSqWord l (withdrawFetch l s))) s
  withdrawCommandFetch s

/-- A CQ device-word write under way ends with its effect discarded (R142, R143). -/
def dropCqWord (s : State) : State :=
  if s.unit.wordWrite then
    { (discardAccess .cqDeviceWord none s) with
      unit := { s.unit with wordWrite := false, stage := if s.unit.stage = .finishing then .idle else s.unit.stage } }
  else s

/-- The status writer stops: nothing is written further, a write under way is discarded, waiting completions are dropped
(R142, R143). -/
def stopStatusWriter (s : State) : State :=
  let s' := { s with status := { s.status with completions := [], stage := .idle, current := none } }
  match s.status.stage with
  | .idle => s'
  | .record => discardAccess .statusRecord none s'
  | .index => discardAccess .stqDeviceWord none s'

/-- What detach and entry to FAULTED share: fetching stops, backlogs are released, every write and index read of the queues is
discarded (R142, R143). -/
def stopHostQueues (s : State) : State :=
  let s := dropCqWord (stopFetching s)
  let s := allDeliveries.foldl (fun s d => dropBacklog d s) s
  let s := allQueues.foldl (fun s q => dropIndexRead q s) s
  stopStatusWriter s

/-- Entry of the device to FAULTED (R143): cause STQ_FAULT, the FAULT cause raised, the host side stopped. Queue states, coalescing
and egress entries are kept. -/
def enterFaulted (s : State) : State :=
  let s := { s with host := raiseCause causeFault { s.host with state := .faulted, lastCause := .stqFault } }
  stopHostQueues s

/-- DETACHING ends when no discarded access is outstanding and no command is in execution (R142). -/
def settleDetach (s : State) : State :=
  if s.host.state = .detaching ∧ s.discarded = [] ∧ s.unit.execution = none then
    { s with host := { s.host with state := .detached } }
  else s

/-! ## The command unit (R132, R145) -/

/-- The stage of the command unit once a result has been handed: IDLE, unless the CQ device-word write has not ended (R132). -/
def CommandUnit.resultHanded (u : CommandUnit) : CommandUnit :=
  { u with stage := if u.wordWrite then .finishing else .idle, execution := none }

/-- A COMMAND_DONE is handed to the status writer and the command unit leaves EXECUTING (R132, section 12.4). -/
def completeAs (code : Nat) (tag : BitVec 32) (result : ResultCode) (word0 word1 : BitVec 64) (s : State) : State :=
  let s := handCompletion (.commandDone result code tag word0 word1 s.time) s
  settleDetach { s with unit := s.unit.resultHanded }

/-- The command in execution completes (R132). -/
def complete (result : ResultCode) (word0 word1 : BitVec 64) (s : State) : State :=
  match s.unit.execution with
  | some x => completeAs (commandCode x.command) x.tag result word0 word1 s
  | none => s

/-- A completion without result data: both words 0 (R146). -/
def completePlain (result : ResultCode) (s : State) : State := complete result 0#64 0#64 s

/-- A command starts the host access of its own buffer, and the command unit stays in EXECUTING (R132). -/
def startAccess (a : CommandAccess) (s : State) : State :=
  { s with unit := { s.unit with execution := s.unit.execution.map fun x => { x with access := some a } } }

/-- The owner takes a command the command unit holds for it: the effect is made when exactly this command is in execution and its
own host access has not begun. Otherwise the happening does not arise (R132, R145; logs 1, 4). -/
def takeCommand (c : Command) (effect : State → State) (s : State) : Result :=
  match s.unit.execution with
  | some x => if x.command = c ∧ x.access = none then .next (effect s) else .next s
  | none => .next s

/-- The access of a command's buffer ends by detach: its effect and the command's result are discarded, and what it held is
released (R36, R44, R73, R89, R118, R123, R125, R142). -/
def discardCommand (s : State) : State :=
  let released := match s.unit.execution.bind (·.access) with
    | some .frameImageWrite =>
      (match s.mailboxRead with
       | some r => releaseSlot r.slot { s with mailboxRead := none }
       | none => s)
    | some (.payloadRead i) => releaseSlot i s
    | _ => s
  settleDetach { released with unit := released.unit.resultHanded }

/-- The end of a command's own access: during DETACHING its effect is discarded (R142), otherwise the command goes on. -/
def endCommandAccess (effect : State → State) (s : State) : State :=
  if s.host.state = .detaching then discardCommand s else effect s

end Sys2Proof.Machine
end

