-- ==== Sys2Proof/Machine/LinkEvents.lean ====
section
/-! DEFINITION. What the bus does to a link (chapters 1 and 2): quiet intervals, stuck episodes, receptions. -/

namespace Sys2Proof.Machine

/-- No frame is under way on the link: no reception in progress and no attempt in flight. -/
def State.busFree (s : State) (l : LinkId) : Bool := (s.link l).reception.isNone && (s.set l).inFlight.isNone

/-- The link follows the bus, which can become idle with nothing more than recessive bit-times: the link is not OFFLINE, not
stuck, and no frame is under way (R5, R15). -/
def State.busMayIdle (s : State) (l : LinkId) : Bool :=
  (s.link l).mode != .offline && (s.link l).following && !(s.link l).stuck && s.busFree l

/-- The bit-times until the bus is idle after a line that ended in an error: none when the tenth recessive bit-time ended it, ten
when a dominant run's 32nd bit-time did (R5, R8). -/
def idleAfterError (line : Line) : Nat :=
  match line.getLast? with
  | some false => Config.errorIdleBits
  | some true => 0
  | none => 0

/-! ## Quiet intervals (R6, R12, R22, R27) -/

/-- The next multiple of 32 of the recessive run; the controller follows the bus, which is idle (R5, R6). -/
def Link.quiet (k : Link) : Link :=
  { k with recessiveRun := (k.recessiveRun / Config.quietBits + 1) * Config.quietBits, dominantRun := 0, following := true,
           idleIn := 0 }

/-- A JOINING link enters its target and posts LINK_STATE (R22). -/
def completeJoin (l : LinkId) (target : JoinTarget) (s : State) : State :=
  let new : Mode := match target with
    | .online => .online
    | .listen => .listen
  postLinkState l (.joining target) new (setMode l new s)

/-- QUIET_INTERVAL (R6): it completes a join, clears the deferral flag in ONLINE, or counts towards probation in ISOLATED. It
arises in every mode but OFFLINE while the bus is not stuck and no frame is under way: within an attempt none is taken, even where
samples read recessive for dominant take the recessive run past a multiple of 32 (log 43). -/
def execQuietInterval (l : LinkId) (s : State) : Result :=
  if (s.link l).mode ≠ .offline ∧ (s.link l).stuck = false ∧ s.busFree l = true then
    let s := s.modLink l Link.quiet
    match (s.link l).mode with
    | .joining target => .next (completeJoin l target s)
    | .online => .next (s.modLink l fun k => { k with deferral := false })
    | .isolated => .next (observeClean l s)
    | .offline => .next s
    | .listen => .next s
    | .suspended => .next s
  else .next s

/-! ## Stuck episodes (R15) -/

/-- STUCK_EPISODE_START (R15): the dominant run reaches 256. It arises in every mode but OFFLINE, when no frame is under way (the
run has ended it) and the bus is not idle. -/
def execStuckEpisodeStart (l : LinkId) (s : State) : Result :=
  let k := s.link l
  if k.mode ≠ .offline ∧ k.stuck = false ∧ s.busFree l = true ∧ ¬(k.following = true ∧ k.idleIn = 0) then
    let s := s.modLink l fun k => { k with stuck := true, dominantRun := Config.stuckBits, recessiveRun := 0 }
    .next (postIf k.config.reportMask.stuck (.linkStuck l) s)
  else .next s

/-- STUCK_EPISODE_END (R15): the first recessive bit-time. The flag is cleared and the bus is not followed until the next quiet
interval. -/
def execStuckEpisodeEnd (l : LinkId) (s : State) : Result :=
  let k := s.link l
  if k.stuck then
    let s := s.modLink l fun k => { k with stuck := false, following := false, dominantRun := 0, recessiveRun := 1 }
    .next (postIf k.config.reportMask.stuck (.linkFreed l) s)
  else .next s

/-! ## Receptions (R8, R13, R16, R23, R27, R35) -/

/-- RECEPTION_BEGIN (R8): a start mark the device did not drive, on an idle bus that the controller follows. -/
def execReceptionBegin (l : LinkId) (s : State) : Result :=
  if s.busMayIdle l then
    .next (s.modLink l fun k => { k with reception := some [false], recessiveRun := 0, dominantRun := 1, idleIn := 0 })
  else .next s

/-- The bus state of the link when a reception's end is taken; `line` is the samples since its opening, which the link's runs already count:
the runs at the end of those samples, and the bit-times until the bus is idle (R5, R6, R8, R15). -/
def Link.receptionOver (line : Line) (outcome : ReceptionOutcome) (k : Link) : Link :=
  { k with reception := none, recessiveRun := trailingRun true k.recessiveRun line,
           dominantRun := trailingRun false k.dominantRun line,
           idleIn := match outcome with
             | .intact _ _ _ => Config.intermissionBits
             | .error _ => idleAfterError line }

/-- rx_intact or rx_error rises by one (R35). -/
def countReception (l : LinkId) (outcome : ReceptionOutcome) (s : State) : State :=
  match outcome with
  | .intact _ _ _ => count l (fun c => { c with rxIntact := c.rxIntact + 1#32 }) s
  | .error _ => count l (fun c => { c with rxError := c.rxError + 1#32 }) s

/-- The score after a reception end in ONLINE (R23). -/
def receptionScore (score : Nat) (outcome : ReceptionOutcome) : Nat :=
  match outcome with
  | .intact _ _ _ => score - 1
  | .error _ => scoreUp score 2

/-- A reception end observed by an ISOLATED link while probation is running (R27). -/
def observeReception (l : LinkId) (outcome : ReceptionOutcome) (s : State) : State :=
  match outcome with
  | .intact _ _ _ => observeClean l s
  | .error _ => s.modLink l fun k => { k with probation := k.probation.map fun _ => 0 }

/-- A reception end is passed to the link state machine, as far as the mode passes it (R13, R23, R27, R35). -/
def passReceptionEnd (l : LinkId) (outcome : ReceptionOutcome) (s : State) : State :=
  match (s.link l).mode with
  | .offline => s
  | .suspended => s
  | .joining _ => countReception l outcome s
  | .listen => countReception l outcome s
  | .online =>
    let s := countReception l outcome s
    changeScore l (receptionScore (s.link l).score outcome) s
  | .isolated => observeReception l outcome (countReception l outcome s)

/-- An INTACT reception taken in ONLINE or LISTEN is handed on: the frame waits for its slot (R13, R16). -/
def handReceptionOn (l : LinkId) (mode : Mode) (outcome : ReceptionOutcome) (s : State) : State :=
  match outcome with
  | .error _ => s
  | .intact key seq payload =>
    if mode = .online ∨ mode = .listen then
      s.modLink l fun k =>
        { k with toStore := k.toStore ++
            [{ key := key, seq := seq, payload := payload, ingress := l, origin := .received, arrival := s.time }] }
    else s

/-- RECEPTION_END (R8): the samples since the reception's opening end exactly where the end is taken. The outcome goes first to
the link state machine and then, if INTACT, to the hand-over of R16. -/
def execReceptionEnd (l : LinkId) (line : Line) (s : State) : Result :=
  match (s.link l).reception with
  | none => .next s
  | some opening =>
    match receptionEnds opening line with
    | none => .next s
    | some outcome =>
      let mode := (s.link l).mode
      let s := s.modLink l (Link.receptionOver line outcome)
      .next (handReceptionOn l mode outcome (passReceptionEnd l outcome s))

end Sys2Proof.Machine
end

