-- ==== Sys2Proof/Machine/Attempts.lean ====
section
/-! DEFINITION. Contention and attempts (R5, R10, R12, R54, R101-R105, R113): how an entry goes on the bus and what becomes of
it. -/

namespace Sys2Proof.Machine

/-! ## Contention (R101, R102) -/

/-- The bus state of the link when its start mark is about to be driven: the bus has been idle, recessive for the bit-times that were
still to pass (R5, R6, R10; log 6). -/
def Link.startMark (k : Link) : Link :=
  { k with recessiveRun := k.recessiveRun + k.idleIn, dominantRun := 0, idleIn := 0 }

/-- CONTENTION_OPPORTUNITY (R101): the head goes in flight and its start mark is driven at once. It arises on an ONLINE link with no
attempt in flight, the deferral flag clear, the bus idle and an entry pending. -/
def execContentionOpportunity (l : LinkId) (s : State) : Result :=
  match (s.set l).pending with
  | [] => .next s
  | e :: rest =>
    if (s.link l).mode = .online ∧ (s.link l).deferral = false ∧ s.busMayIdle l = true then
      let s := s.modSet l fun x => { x with pending := rest, inFlight := some e }
      .next (s.modLink l Link.startMark)
    else .next s

/-- The orphaned flag of an entry (R113). -/
def Entry.orphaned (e : Entry) : Bool :=
  match e.origin with
  | .host _ _ _ orphaned => orphaned
  | .forward _ => false
  | .cyclic _ => false

/-- The LOOPBACK flag of an entry (R54). -/
def Entry.loopback (e : Entry) : Bool :=
  match e.origin with
  | .host _ _ loopback _ => loopback
  | .forward _ => false
  | .cyclic _ => false

/-- An entry leaves the set without a completion: its slot is released and its place freed (R102, R113). -/
def dropEntry (l : LinkId) (e : Entry) (s : State) : State := passPlace l (releaseSlot e.slot s)

/-- The in-flight entry becomes absent. -/
def landEntry (l : LinkId) (s : State) : State := s.modSet l fun x => { x with inFlight := none }

/-- What becomes of an entry that lost contention, in the order of R102. -/
def disposeLost (l : LinkId) (e : Entry) (s : State) : State :=
  if e.orphaned then dropEntry l e s
  else if e.cancelRequested then endEntry l e .cancelled s
  else if e.expired s.time then endEntry l e .expired s
  else s.modSet l (EgressSet.putBack e)

/-- The samples so far are the opening of a reception, and the link's runs count them (R5, R6, R8, R15). -/
def Link.openReception (line : Line) (k : Link) : Link :=
  { k with reception := some line, recessiveRun := trailingRun true 0 line, dominantRun := trailingRun false 0 line, idleIn := 0 }

/-- CONTENTION_LOST (R5, R102): at the last sample, in the key field, the device sent recessive and read dominant. The samples received so
far open a reception, and the entry goes back to the egress scheduler. -/
def execContentionLost (l : LinkId) (line : Line) (s : State) : Result :=
  match (s.set l).inFlight with
  | none => .next s
  | some e =>
    if losesContention e.key e.seq (s.slot e.slot).frame.payload line then
      .next (disposeLost l e (landEntry l (s.modLink l (Link.openReception line))))
    else .next s

/-! ## The attempt end (R10, R23, R103) -/

/-- tx_acked or tx_failed_attempts rises by one, in any mode (R35). -/
def countAttempt (l : LinkId) (outcome : AttemptOutcome) (s : State) : State :=
  if outcome = .acked then count l (fun c => { c with txAcked := c.txAcked + 1#32 }) s
  else count l (fun c => { c with txFailedAttempts := c.txFailedAttempts + 1#32 }) s

/-- The score after an attempt end in ONLINE; `health` is the one held when it is taken (R23). -/
def attemptScore (score : Nat) (health : Health) (outcome : AttemptOutcome) : Nat :=
  match outcome with
  | .acked => score - 2
  | .unacked => if health = .muted then score else scoreUp score 3
  | .echo => scoreUp score 6
  | .abortSeen => scoreUp score 6

/-- The outcome is passed to the link state machine (R10, R23, R35). -/
def passAttemptEnd (l : LinkId) (outcome : AttemptOutcome) (s : State) : State :=
  let s := countAttempt l outcome s
  let k := s.link l
  if k.mode = .online then changeScore l (attemptScore k.score k.health outcome) s else s

/-- A loopback append (R54): the slot is rewritten and joins the input list, or, with 16 entries there, is released and counted in
drop_input_full of the link. -/
def loopbackAppend (l : LinkId) (i : SlotId) (s : State) : State :=
  if s.routing.input.length < Config.inputCapacity then
    let s := s.modSlot i fun x => { x with frame := { x.frame with origin := .loopback, arrival := s.time } }
    { s with routing := { s.routing with input := s.routing.input ++ [i] } }
  else countDropInputFull l (releaseSlot i s)

/-- An entry ended SENT (R104): a LOOPBACK slot is handed to the input list, any other is released. -/
def endSent (l : LinkId) (e : Entry) (s : State) : State :=
  if e.loopback then handEnd l e .sent (passPlace l (loopbackAppend l e.slot s)) else endEntry l e .sent s

/-- The outcome FAILED with the kind of the attempt end (R105). -/
def failedOutcome : AttemptOutcome → SendOutcome
  | .acked => .sent
  | .unacked => .failedUnacked
  | .echo => .failedEcho
  | .abortSeen => .failedAbortSeen

/-- An orphaned entry at its attempt end: loopback if ACKED and asked for, otherwise release; no retry and no completion (R113). -/
def disposeOrphan (l : LinkId) (e : Entry) (outcome : AttemptOutcome) (s : State) : State :=
  if outcome = .acked ∧ e.loopback = true then passPlace l (loopbackAppend l e.slot s) else dropEntry l e s

/-- The disposition of R103, steps 1 to 6. -/
def disposeAttempt (l : LinkId) (e : Entry) (outcome : AttemptOutcome) (s : State) : State :=
  let k := s.link l
  if e.orphaned then disposeOrphan l e outcome s
  else if outcome = .acked then endSent l e s
  else if e.cancelRequested then endEntry l e .cancelled s
  else if e.expired s.time then endEntry l e .expired s
  else if k.mode = .isolated ∧ k.config.isolateAction = .flush then endEntry l e .isolated s
  else if 0 < e.budget then s.modSet l (EgressSet.putBack { e with budget := e.budget - 1 })
  else endEntry l e (failedOutcome outcome) s

/-- An ONLINE link whose health is MUTED after the attempt end sets its deferral flag (R12). -/
def setDeferral (l : LinkId) (s : State) : State :=
  s.modLink l fun k => if k.mode = .online ∧ k.health = .muted then { k with deferral := true } else k

/-- The bus state of the link when an attempt's end is taken; `line` is the samples from the start mark on (R5, R6, R10, R15). -/
def Link.attemptOver (line : Line) (outcome : AttemptOutcome) (k : Link) : Link :=
  { k with recessiveRun := trailingRun true k.recessiveRun line,
           dominantRun := trailingRun false k.dominantRun line,
           idleIn := match outcome with
             | .acked => Config.intermissionBits
             | .unacked => Config.intermissionBits
             | .echo => idleAfterError line
             | .abortSeen => idleAfterError line }

/-- ATTEMPT_END (R103): the samples read from the start mark on end exactly where the attempt's end is taken. The outcome goes first to the
link state machine, then to the egress scheduler, and the deferral flag follows. -/
def execAttemptEnd (l : LinkId) (line : Line) (s : State) : Result :=
  match (s.set l).inFlight with
  | none => .next s
  | some e =>
    match attemptOutcome e.key e.seq (s.slot e.slot).frame.payload line with
    | none => .next s
    | some outcome =>
      let s := passAttemptEnd l outcome (s.modLink l (Link.attemptOver line outcome))
      .next (setDeferral l (disposeAttempt l { e with attempts := e.attempts + 1 } outcome (landEntry l s)))

end Sys2Proof.Machine
end

