-- ==== Sys2Proof/Machine/CyclicScheduler.lean ====
section
/-! DEFINITION. The cyclic scheduler (chapter 8): emission, answers and ends, and its commands. -/

namespace Sys2Proof.Machine

/-- A number of the entry's 100-microsecond units after a time (R117). -/
def unitsAfter (t : Time) (units : Nat) : Time := timeAfter t (units * Config.cyclicUnit)

/-- A 16-bit saturating counter raised (R117). -/
def raised (n : Nat) : Nat := saturatingSucc Config.counterLimit n

/-! ## Emission, answers and ends (R120, R121) -/

/-- What an emission does to its schedule entry: the request is handed, the sequence advances and the next due time moves by a period
from the due time reached (R120). -/
def emitted (due : Time) (template : SlotId) (now : Time) (x : ScheduleEntry) : ScheduleEntry :=
  { x with
    requests := x.requests ++
      [{ slot := template, key := x.key, seq := x.seq, budget := x.budget, period := x.period, policy := x.policy, time := now }]
    unanswered := x.unanswered + 1
    seq := x.seq + 1#4
    nextDue := some (unitsAfter due x.period) }

/-- EMISSION (R120): device time has reached the next due time of an ARMED entry. -/
def execEmission (e : ScheduleId) (s : State) : Result :=
  let x := s.entry e
  match x.state, x.nextDue, x.template with
  | .armed, some due, some template =>
    if reached s.time due then .next ((addReference template s).modEntry e (emitted due template s.time)) else .next s
  | _, _, _ => .next s

/-- An answer taken by the schedule entry (R121). -/
def ScheduleEntry.takeAnswer (a : EmissionAnswer) (x : ScheduleEntry) : ScheduleEntry :=
  let x := { x with unanswered := x.unanswered - 1 }
  match a with
  | .admitted => { x with outstanding := true, counters := { x.counters with emitted := raised x.counters.emitted } }
  | .replaced =>
    { x with outstanding := true,
             counters := { x.counters with emitted := raised x.counters.emitted, replaced := raised x.counters.replaced } }
  | .skipped => { x with counters := { x.counters with skipped := raised x.counters.skipped } }

/-- EMISSION_ANSWER (R121): the oldest thing handed back to the entry is an answer, and is taken. -/
def execEmissionAnswer (e : ScheduleId) (s : State) : Result :=
  match (s.entry e).inbox with
  | .answer a :: rest => .next (s.modEntry e fun x => ({ x with inbox := rest } : ScheduleEntry).takeAnswer a)
  | .ended _ :: _ => .next s
  | [] => .next s

/-- The end of a copy taken by the schedule entry (R121). -/
def ScheduleEntry.takeEnd (c : CopyEnd) (x : ScheduleEntry) : ScheduleEntry :=
  let x := { x with outstanding := false }
  match c with
  | .sent => { x with counters := { x.counters with sent := raised x.counters.sent } }
  | .failed => { x with counters := { x.counters with failed := raised x.counters.failed } }
  | .expired => { x with counters := { x.counters with expired := raised x.counters.expired } }
  | .dropped => { x with counters := { x.counters with dropped := raised x.counters.dropped } }

/-- COPY_END (R121): the oldest thing handed back to the entry is the end of a copy, and is taken. -/
def execCopyEnd (e : ScheduleId) (s : State) : Result :=
  match (s.entry e).inbox with
  | .ended c :: rest => .next (s.modEntry e fun x => ({ x with inbox := rest } : ScheduleEntry).takeEnd c)
  | .answer _ :: _ => .next s
  | [] => .next s

/-! ## CYCLIC_SET (R118, R157) -/

/-- An outstanding copy or an unanswered request holds an IDLE entry (R118, R124). -/
def ScheduleEntry.busy (x : ScheduleEntry) : Bool := x.outstanding || 0 < x.unanswered

/-- Result word 0 of every cyclic command under WRONG_STATE (section 12.6). -/
def cyclicStateWord (x : ScheduleEntry) : BitVec 64 := packWord [(0, x.state.code), (8, x.outstanding.toNat)]

/-- A cyclic command is refused for the entry's state (R157, R158). -/
def refuseCyclic (e : ScheduleId) (s : State) : State := complete .wrongState (cyclicStateWord (s.entry e)) 0#64 s

/-- The entry takes a new template and its arguments, in IDLE, with sequence and counters 0 (R118 steps 3 to 6). -/
def ScheduleEntry.setUp (a : CyclicArgs) (template : SlotId) (x : ScheduleEntry) : ScheduleEntry :=
  { x with state := .idle, link := a.link, key := a.key, period := a.period, phase := a.phase, policy := a.policy,
           budget := a.budget, template := some template, seq := 0#4, counters := CyclicCounters.zero }

/-- The template of the entry is released, if it has one (R40, R118, R124). -/
def releaseTemplate (e : ScheduleId) (s : State) : State :=
  match (s.entry e).template with
  | some i => releaseSlot i s
  | none => s

/-- The end of a successful CYCLIC_SET read, in the order of R118; the slot is filled as R45 states. -/
def finishCyclicSet (e : ScheduleId) (a : CyclicArgs) (i : SlotId) (payload : List Byte) (s : State) : State :=
  let f : Frame :=
    { key := a.key, seq := 0#4, payload := payload, ingress := a.link, origin := .cyclic, arrival := s.time }
  completePlain .ok ((releaseTemplate e (fillSlot i f s)).modEntry e (ScheduleEntry.setUp a i))

/-- CYCLIC_SET (R118, R157): the state check, the slot, then the read of the payload. A payload of length 0 is not read (log 20). -/
def execCyclicSet (e : ScheduleId) (args : CyclicArgs) (s : State) : Result :=
  takeCommand (.cyclicSet e args)
    (fun s =>
      let x := s.entry e
      if x.state = .armed ∨ (x.state = .idle ∧ x.busy = true) then refuseCyclic e s
      else
        match s.lowestFree with
        | none => completePlain .noSpace s
        | some i =>
          let s := grantSlot i s
          if args.length = 0 then finishCyclicSet e args i [] s else startAccess (.payloadRead i) s) s

/-- CYCLIC_SET_READ_END (R118): the payload has been read. -/
def execCyclicSetReadEnd (payload : List Byte) (s : State) : Result :=
  match s.unit.execution with
  | some { tag := _, command := .cyclicSet e args, access := some (.payloadRead i) } =>
    if payload.length = args.length then .next (endCommandAccess (finishCyclicSet e args i payload) s) else .next s
  | _ => .next s

/-! ## CYCLIC_START and CYCLIC_STOP (R119, R158) -/

/-- CYCLIC_START (R119): an IDLE entry is ARMED, its first due time a phase from now. -/
def execCyclicStart (e : ScheduleId) (s : State) : Result :=
  takeCommand (.cyclicStart e)
    (fun s =>
      let x := s.entry e
      match x.state with
      | .empty => refuseCyclic e s
      | .armed => refuseCyclic e s
      | .idle =>
        let due := unitsAfter s.time x.phase
        complete .ok (packWord [(0, due.toNat)]) 0#64 (s.modEntry e fun x => { x with state := .armed, nextDue := some due })) s

/-- CYCLIC_STOP (R119): an ARMED entry is IDLE without a due time. -/
def execCyclicStop (e : ScheduleId) (s : State) : Result :=
  takeCommand (.cyclicStop e)
    (fun s =>
      let x := s.entry e
      let word := packWord [(0, x.outstanding.toNat)]
      match x.state with
      | .empty => refuseCyclic e s
      | .idle => complete .ok word 0#64 s
      | .armed => complete .ok word 0#64 (s.modEntry e fun x => { x with state := .idle, nextDue := none })) s

/-! ## CYCLIC_UPDATE (R123, R157) -/

/-- The frame of a template updated into a new slot (R45). -/
def movedTemplate (old : Frame) (link : LinkId) (payload : List Byte) (now : Time) : Frame :=
  { key := old.key, seq := old.seq, payload := payload, ingress := link, origin := .cyclic, arrival := now }

/-- The apply of CYCLIC_UPDATE by the template's reference count (R123): in place, into a new slot, or NO_SPACE. -/
def applyUpdate (e : ScheduleId) (payload : List Byte) (s : State) : State :=
  let s := { s with unit := { s.unit with buffer := payload } }
  match (s.entry e).template with
  | none => refuseCyclic e s
  | some t =>
    if (s.slot t).count = 1 then
      let s := s.modSlot t fun x => { x with frame := { x.frame with payload := payload, arrival := s.time } }
      complete .ok (packWord [(0, 0)]) 0#64 s
    else
      match s.lowestFree with
      | none => completePlain .noSpace s
      | some i =>
        let f := movedTemplate (s.slot t).frame (s.entry e).link payload s.time
        let s := (fillSlot i f (grantSlot i s)).modEntry e fun x => { x with template := some i }
        complete .ok (packWord [(0, 1)]) 0#64 (releaseSlot t s)

/-- CYCLIC_UPDATE (R123, R157): refused in EMPTY, otherwise the payload is read into the command unit's buffer. A payload of length 0
is not read (log 20). -/
def execCyclicUpdate (e : ScheduleId) (length : Nat) (address : HostAddress) (s : State) : Result :=
  takeCommand (.cyclicUpdate e length address)
    (fun s =>
      if (s.entry e).state = .empty then refuseCyclic e s
      else if length = 0 then applyUpdate e [] s
      else startAccess .bufferRead s) s

/-- CYCLIC_UPDATE_APPLY (R123): the payload has been read, and the apply is made. -/
def execCyclicUpdateApply (payload : List Byte) (s : State) : Result :=
  match s.unit.execution with
  | some { tag := _, command := .cyclicUpdate e length _, access := some .bufferRead } =>
    if payload.length = length then .next (endCommandAccess (applyUpdate e payload) s) else .next s
  | _ => .next s

/-! ## CYCLIC_CLEAR and CYCLIC_READ (R124, R125, R158) -/

/-- CYCLIC_CLEAR (R124). -/
def execCyclicClear (e : ScheduleId) (s : State) : Result :=
  takeCommand (.cyclicClear e)
    (fun s =>
      let x := s.entry e
      match x.state with
      | .empty => completePlain .ok s
      | .idle =>
        if x.busy then refuseCyclic e s
        else completePlain .ok ((releaseTemplate e s).modEntry e fun _ => ScheduleEntry.reset)
      | .armed => refuseCyclic e s) s

/-- The payload length of the entry's template, absent in EMPTY (R125). -/
def templateLength (e : ScheduleId) (s : State) : Option Nat :=
  (s.entry e).template.map fun i => (s.slot i).frame.payload.length

/-- CYCLIC_READ (R125): the snapshot is taken, then the counters are cleared if asked, and the write of the block starts. -/
def execCyclicRead (e : ScheduleId) (address : HostAddress) (clear : Bool) (s : State) : Result :=
  takeCommand (.cyclicRead e address clear)
    (fun s =>
      let block := cyclicStatusBlock (s.entry e) (templateLength e s)
      let s := if clear then s.modEntry e fun x => { x with counters := CyclicCounters.zero } else s
      startAccess (.cyclicStatusWrite block) s) s

/-- CYCLIC_READ_WRITE_END (R125). -/
def execCyclicReadWriteEnd (result : AccessEnd) (s : State) : Result :=
  match s.unit.execution.bind (·.access) with
  | some (.cyclicStatusWrite _) =>
    .next (endCommandAccess (completePlain (if result = .done then .ok else .hostFault)) s)
  | _ => .next s

end Sys2Proof.Machine
end

