-- ==== Sys2Proof/Machine/EgressScheduler.lean ====
section
/-! DEFINITION. The egress scheduler (chapter 7): admissions, places, deadlines, cancellation and flushing. -/

namespace Sys2Proof.Machine

/-! ## Places and admissions (R97-R100) -/

/-- PLACE_REQUEST (R97): below 48 the place is granted and the read starts, at 48 the fetcher waits. It arises while the fetch is at
its place claim; a record handed on by the fetcher's last fetch is admitted first (log 17). -/
def execPlaceRequest (l : LinkId) (s : State) : Result :=
  let f := s.fetcher l
  let x := s.set l
  if f.stage = .place ∧ f.admission = none ∧ x.waiting = false ∧ x.reserved = false then
    if x.occupancy < Config.egressCapacity then
      .next ((s.modSet l fun x => { x with reserved := true }).modFetcher l fun f => { f with stage := .reading })
    else .next (s.modSet l fun x => { x with waiting := true })
  else .next s

/-- The deadline at a distance from a time, absent for a distance of 0 (R98, R99). -/
def deadlineAfter (t : Time) (lifetime : Nat) : Option Time := if lifetime = 0 then none else some (timeAfter t lifetime)

/-- The entry a HOST admission makes (R98). -/
def hostEntry (a : HostAdmission) (arrival : Time) : Entry :=
  { slot := a.slot, key := a.key, seq := a.seq, origin := .host a.tag a.silent a.loopback false, budget := a.budget,
    deadline := deadlineAfter arrival a.lifetime, attempts := 0, cancelRequested := false, admission := 0#48 }

/-- A HOST record is completed at once: the fetch's place and slot are released (R43, R98). -/
def completeAtOnce (l : LinkId) (a : HostAdmission) (outcome : SendOutcome) (s : State) : State :=
  handCompletion (.sendDone l a.tag outcome 0 s.time) (releasePlace l (releaseSlot a.slot s))

/-- HOST_ADMISSION (R98): the record handed by the fetcher is completed at once on a link that refuses admissions, otherwise the reserved
place becomes its entry. -/
def execHostAdmission (l : LinkId) (s : State) : Result :=
  match (s.fetcher l).admission with
  | none => .next s
  | some a =>
    let s := s.modFetcher l fun f => { f with admission := none }
    let k := s.link l
    if k.mode = .offline then .next (completeAtOnce l a .linkDown s)
    else if k.refusesAdmission then .next (completeAtOnce l a .isolated s)
    else
      let e := hostEntry a (s.slot a.slot).frame.arrival
      .next (s.modSet l fun x => ({ x with reserved := false } : EgressSet).insert e)

/-- The entry a FORWARD admission makes, under the destination's configuration (R65, R99). -/
def forwardEntry (c : Classification) (key : Key) (f : Frame) (cfg : LinkConfig) : Entry :=
  { slot := c.entry, key := key, seq := f.seq, origin := .forward f.ingress, budget := cfg.forwardRetries,
    deadline := deadlineAfter c.time cfg.forwardLifetime, attempts := 0, cancelRequested := false, admission := 0#48 }

/-- A FORWARD admission at the destination link: refused and counted, or accepted with a reference of its own (R99). -/
def admitForward (l : LinkId) (e : Entry) (s : State) : State :=
  if (s.link l).refusesAdmission then countForwardDropDown l s
  else if Config.egressCapacity ≤ (s.set l).occupancy then countForwardDropFull l s
  else (addReference e.slot s).modSet l (EgressSet.insert e)

/-- FORWARD_ADMISSION (R65, R99): the egress scheduler takes the next link hand-over of the classification in dispatch. -/
def execForwardAdmission (l : LinkId) (s : State) : Result :=
  match s.routing.classification with
  | none => .next s
  | some c =>
    match c.stage, c.outLinks with
    | .dispatch, (l', key) :: rest =>
      if l' = l then
        let s := { s with routing := { s.routing with classification := some { c with outLinks := rest } } }
        .next (admitForward l (forwardEntry c key (s.slot c.entry).frame (s.link l).config) s)
      else .next s
    | _, _ => .next s

/-- The entry is a copy of this schedule entry (R100). -/
def Entry.isCopyOf (e : ScheduleId) (x : Entry) : Bool := x.origin == .cyclic e

/-- The copy an emission request asks for (R100, R107). -/
def copyEntry (e : ScheduleId) (r : EmissionRequest) : Entry :=
  { slot := r.slot, key := r.key, seq := r.seq, origin := .cyclic e, budget := r.budget,
    deadline := some (timeAfter r.time (r.period * Config.cyclicUnit)), attempts := 0, cancelRequested := false,
    admission := 0#48 }

/-- A request answered SKIPPED releases the reference it held (R100). -/
def skipEmission (e : ScheduleId) (r : EmissionRequest) (s : State) : State :=
  handCyclic e (.answer .skipped) (releaseSlot r.slot s)

/-- A copy is admitted, taking over the request's reference (R100). -/
def admitCopy (l : LinkId) (e : ScheduleId) (r : EmissionRequest) (answer : EmissionAnswer) (s : State) : State :=
  handCyclic e (.answer answer) (s.modSet l (EgressSet.insert (copyEntry e r)))

/-- The first case of R100 that applies. -/
def answerEmission (l : LinkId) (e : ScheduleId) (r : EmissionRequest) (s : State) : State :=
  let x := s.set l
  if (s.link l).mode ≠ .online then skipEmission e r s
  else if x.inFlight.any (Entry.isCopyOf e) then skipEmission e r s
  else
    match x.pending.find? (Entry.isCopyOf e) with
    | some old =>
      match r.policy with
      | .skip => skipEmission e r s
      | .replace =>
        admitCopy l e r .replaced (releaseSlot old.slot (s.modSet l fun x => { x with pending := x.pending.erase old }))
    | none => if Config.egressCapacity ≤ x.occupancy then skipEmission e r s else admitCopy l e r .admitted s

/-- EMISSION_REQUEST (R100): the oldest request of the schedule entry not yet taken, at its link. -/
def execEmissionRequest (e : ScheduleId) (s : State) : Result :=
  match (s.entry e).requests with
  | [] => .next s
  | r :: rest => .next (answerEmission (s.entry e).link e r (s.modEntry e fun x => { x with requests := rest }))

/-! ## Deadlines (R107) -/

/-- A pending entry leaves the set and is ended (R106). -/
def removePending (l : LinkId) (e : Entry) (outcome : SendOutcome) (s : State) : State :=
  endEntry l e outcome (s.modSet l fun x => { x with pending := x.pending.erase e })

/-- DEADLINE_EXPIRY (R107): a pending entry whose deadline device time has reached is ended EXPIRED, in any mode. -/
def execDeadlineExpiry (l : LinkId) (admission : BitVec 48) (s : State) : Result :=
  match (s.set l).pending.find? fun e => e.admission = admission && e.expired s.time with
  | some e => .next (removePending l e .expired s)
  | none => .next s

/-! ## Cancellation and flushing (R108, R109) -/

/-- A live HOST entry with this tag that is not yet marked (R108). -/
def Entry.cancellable (tag : BitVec 32) (e : Entry) : Bool :=
  match e.origin with
  | .host t _ _ orphaned => t = tag && !orphaned && !e.cancelRequested
  | .forward _ => false
  | .cyclic _ => false

/-- The entry with the lowest admission number (R108). -/
def oldestEntry : List Entry → Option Entry
  | [] => none
  | e :: es =>
    match oldestEntry es with
    | none => some e
    | some x => if x.admission < e.admission then some x else some e

/-- The entry SEND_CANCEL finds, pending or in flight (R108). -/
def EgressSet.cancelTarget (tag : BitVec 32) (x : EgressSet) : Option Entry :=
  oldestEntry ((x.inFlight.toList ++ x.pending).filter (Entry.cancellable tag))

/-- The in-flight entry is marked for cancellation (R108, R109). -/
def markInFlight (l : LinkId) (s : State) : State :=
  s.modSet l fun x => { x with inFlight := x.inFlight.map fun e => { e with cancelRequested := true } }

/-- SEND_CANCEL (R108, R152). -/
def execSendCancel (l : LinkId) (tag : BitVec 32) (s : State) : Result :=
  takeCommand (.sendCancel l tag)
    (fun s =>
      match (s.set l).cancelTarget tag with
      | none => completePlain .notFound s
      | some e =>
        let word := packWord [(0, e.attempts)]
        if (s.set l).inFlight = some e then complete .inFlight word 0#64 (markInFlight l s)
        else complete .ok word 0#64 (removePending l e .cancelled s)) s

/-- The number of entries of each origin (R109). -/
def countOrigins (es : List Entry) : Nat × Nat × Nat :=
  (es.countP (fun e => match e.origin with | .host _ _ _ _ => true | _ => false),
   es.countP (fun e => match e.origin with | .forward _ => true | _ => false),
   es.countP (fun e => match e.origin with | .cyclic _ => true | _ => false))

/-- Result word 0 of EGRESS_FLUSH (R109, section 12.6). -/
def flushWord (x : EgressSet) : BitVec 64 :=
  let n := countOrigins x.pending
  packWord [(0, n.1), (8, n.2.1), (16, n.2.2), (24, x.inFlight.isSome.toNat)]

/-- EGRESS_FLUSH (R109, R152): the pending entries end FLUSHED in set order and an entry in flight is marked. -/
def execEgressFlush (l : LinkId) (s : State) : Result :=
  takeCommand (.egressFlush l)
    (fun s => complete .ok (flushWord (s.set l)) 0#64 (markInFlight l (clearPending l .flushed s))) s

end Sys2Proof.Machine
end

