-- ==== Sys2Proof/Machine/Registers.lean ====
section
/-! DEFINITION. The register window's happenings (chapter 11, R141, R142): resets, CONTROL writes, CBA writes, kicks and the
clearing of interrupt causes. -/

namespace Sys2Proof.Machine

/-! ## Attaching and detaching (R141, R142, R113) -/

/-- ATTACHING ends in DETACHED with a cause; the ATTACH cause is raised (R141, R161). -/
def attachFailed (cause : LastCause) (s : State) : State :=
  { s with host := raiseCause causeAttach { s.host with state := .detached, lastCause := cause } }

/-- START (R141): from DETACHED the device goes to ATTACHING and its reads begin, or, with a control-block address that is
not 64-byte aligned, fails at once (log 13). In any other state START has no effect. -/
def takeStart (s : State) : State :=
  if s.host.state = .detached then
    if (controlBlockAddress s.host).toNat % 64 = 0 then { s with host := { s.host with state := .attaching } }
    else attachFailed .badControlBlock s
  else s

/-- The origin of an entry is HOST (R95). -/
def Entry.isHost (e : Entry) : Bool :=
  match e.origin with
  | .host _ _ _ _ => true
  | .forward _ => false
  | .cyclic _ => false

/-- A HOST entry gets its orphaned flag (R113). -/
def Entry.orphan (e : Entry) : Entry :=
  match e.origin with
  | .host tag silent loopback _ => { e with origin := .host tag silent loopback true }
  | .forward _ => e
  | .cyclic _ => e

/-- One egress set drops its host-side work: pending HOST entries go without completion, the in-flight one is orphaned; FORWARD
entries and CYCLIC copies stay (R113). -/
def dropHostEntries (l : LinkId) (s : State) : State :=
  let gone := (s.set l).pending.filter Entry.isHost
  let s := s.modSet l fun x =>
    { x with pending := x.pending.filter (fun e => !e.isHost), inFlight := x.inFlight.map Entry.orphan }
  releaseSlots (gone.map (·.slot)) s

/-- A queue is DISABLED with no fault cause and its coalescing at rest; the rest of its context is kept (R138, R142). -/
def Queue.disabled (x : Queue) : Queue := { x.clearCoalescing with state := .disabled, cause := none }

/-- DETACH (R142): from ATTACHED or FAULTED the device goes to DETACHING, its host side is torn down, and if no access and no
command is outstanding it is DETACHED at once. In any other state DETACH has no effect. -/
def takeDetach (s : State) : State :=
  if s.host.state = .attached ∨ s.host.state = .faulted then
    let s := stopHostQueues { s with host := { s.host with state := .detaching } }
    let s := allLinks.foldl (fun s l => dropHostEntries l s) s
    let s := { s with notices := [], lost := 0,
                      status := { s.status with reserved := 0, waiters := [], completions := [] } }
    settleDetach (allQueues.foldl (fun s q => s.modQueue q Queue.disabled) s)
  else s

/-! ## CONTROL (R160) -/

/-- The interrupt enables are stored (R160). -/
def storeEnables (enables : BitVec 4) (s : State) : State := { s with host := { s.host with enables := enables } }

/-- A write to CONTROL, by its enables (bits 8-11) and action bits (0 START, 1 DETACH, 2 RESET), as the table of R160 has it. -/
def controlWrite (enables : BitVec 4) (actions : BitVec 3) (s : State) : State :=
  if actions = 4#3 then State.afterReset .device s.pending
  else if s.host.state = .attaching ∨ s.host.state = .detaching then s
  else if actions = 1#3 then takeStart (storeEnables enables s)
  else if actions = 2#3 then takeDetach (storeEnables enables s)
  else storeEnables enables s

/-! ## The other registers (R159, R162, R163) -/

/-- A write to CBA_LO or CBA_HI: stored while DETACHED, ignored otherwise (R159). -/
def writeCba (half : CbaHalf) (value : BitVec 32) (s : State) : State :=
  if s.host.state = .detached then
    match half with
    | .lo => { s with host := { s.host with cbaLo := value } }
    | .hi => { s with host := { s.host with cbaHi := value } }
  else s

/-- The kick of one queue (R130). -/
def kickQueue (q : QueueId) (s : State) : State :=
  if s.attached ∧ (s.queue q).state = .active then
    s.modQueue q fun x => if x.reading then { x with reread := true } else { x with reading := true }
  else s

/-- A write to KICK: every queue whose bit is set is kicked (R162). The kicks of one write are taken in one step, in ascending queue
number (log 37). -/
def writeKick (value : BitVec 32) (s : State) : State :=
  allQueues.foldl (fun s q => if value.getLsbD q.val then kickQueue q s else s) s

/-- A queue's coalescing is acknowledged (R138). -/
def acknowledgeQueue (q : QueueId) (s : State) : State := s.modQueue q Queue.clearCoalescing

/-- A write to IRQ: causes written 1 are cleared, and a 1 written to STATUS or DELIVERY acknowledges the queues that raise
that cause (R138, R163). -/
def writeIrq (value : BitVec 32) (s : State) : State :=
  let s := { s with host := { s.host with causes := s.host.causes &&& ~~~(value.setWidth 4) } }
  let s := if value.getLsbD 1 then acknowledgeQueue stq s else s
  if value.getLsbD 2 then allDeliveries.foldl (fun s d => acknowledgeQueue (dq d) s) s else s

/-- The happening that a 32-bit write at an offset of the window is (R159); none where the window holds no register. -/
def registerWriteAt (offset : Nat) (value : BitVec 32) : Option Instr :=
  (registerAt offset).map fun r => .registerWrite r value

/-! ## The happenings -/

/-- POWER_ON_RESET (R165): every block takes its power-on state, with last reset POWER. Happenings already waiting stay (log 3). -/
def execPowerOnReset (s : State) : Result := .next (State.afterReset .power s.pending)

/-- RESET (R160, R165): a CONTROL write with RESET alone, in any host-side state; it clears the enables whatever it carried. -/
def execReset (enables : BitVec 4) (s : State) : Result := .next (controlWrite enables 4#3 s)

/-- START (R141, R160): a CONTROL write with START alone; the enables are stored first. -/
def execStart (enables : BitVec 4) (s : State) : Result := .next (controlWrite enables 1#3 s)

/-- DETACH (R142, R160): a CONTROL write with DETACH alone; the enables are stored first. -/
def execDetach (enables : BitVec 4) (s : State) : Result := .next (controlWrite enables 2#3 s)

/-- CONTROL_ENABLES_WRITE (R160): a CONTROL write with no action bit or with two or more. -/
def execControlEnablesWrite (enables : BitVec 4) (actions : BitVec 3) (s : State) : Result :=
  .next (controlWrite enables actions s)

/-- CBA_WRITE (R159). -/
def execCbaWrite (half : CbaHalf) (value : BitVec 32) (s : State) : Result := .next (writeCba half value s)

/-- KICK (R130, R162). -/
def execKick (value : BitVec 32) (s : State) : Result := .next (writeKick value s)

/-- IRQ_CLEAR (R138, R163). -/
def execIrqClear (value : BitVec 32) (s : State) : Result := .next (writeIrq value s)

/-- REGISTER_WRITE (R159): a 32-bit value written to any register; writes to read-only registers and bits that the layout does
not name are ignored (log 32). -/
def execRegisterWrite (reg : Register) (value : BitVec 32) (s : State) : Result :=
  match reg with
  | .ident => .next s
  | .control => .next (controlWrite (value.extractLsb' 8 4) (value.extractLsb' 0 3) s)
  | .state => .next s
  | .cbaLo => .next (writeCba .lo value s)
  | .cbaHi => .next (writeCba .hi value s)
  | .kick => .next (writeKick value s)
  | .irq => .next (writeIrq value s)
  | .time => .next s

end Sys2Proof.Machine
end

