-- ==== Sys2Proof/Machine/HostAccesses.lean ====
section
/-! DEFINITION. Host-memory accesses that end or fault (R139, R141, R142), index reads (R130) and credit requests (R131). -/

namespace Sys2Proof.Machine

/-! ## Attaching (R141) -/

/-- The control block has been read and is valid: CQ and STQ are loaded and the device is ATTACHED (R141). A notice posted before this
and not yet taken stays posted, and is taken under ATTACHED if its NOTICE_POST comes after this (log 29). -/
def attachSucceeded (cqDescriptor stqDescriptor : Descriptor) (s : State) : State :=
  let s := loadQueue stq stqDescriptor (loadQueue cq cqDescriptor s)
  { s with
    status := { reserved := 0, waiters := [], completions := [], stage := .idle, current := none, lap := true },
    notices := [], lost := 0,
    unit := { s.unit with stage := .idle, execution := none, wordWrite := false },
    host := raiseCause causeAttach { s.host with state := .attached, lastCause := .none } }

/-- ATTACH_READ_END (R141): the reads of ATTACHING end, with header and descriptors judged by R127. It arises in ATTACHING. -/
def execAttachReadEnd (result : AttachRead) (s : State) : Result :=
  if s.host.state = .attaching then
    match result with
    | .fault => .next (attachFailed .hostFault s)
    | .data header cqBytes stqBytes =>
      if headerValid header && descriptorValid cq cqBytes && descriptorValid stq stqBytes then
        .next (attachSucceeded (descriptorOf cqBytes) (descriptorOf stqBytes) s)
      else .next (attachFailed .badControlBlock s)
  else .next s

/-! ## Discarded accesses (R134, R142) -/

/-- A discarded access of a kind ends: it leaves the list and releases the slot it kept (R134, R142). Of several of one kind the oldest
ends (log 41). -/
def endDiscarded (a : HostAccess) (s : State) : State :=
  match s.discarded.find? (fun x => x.access = a) with
  | some x =>
    let s := { s with discarded := s.discarded.erase x }
    settleDetach (match x.slot with
      | some i => releaseSlot i s
      | none => s)
  | none => s

/-- The own host access of the command in execution (R132). -/
def CommandUnit.access (u : CommandUnit) : Option CommandAccess := u.execution.bind (·.access)

/-- HOST_ACCESS_END (R142): an access whose effect is discarded ends. A command's own access is such an access while the device is
DETACHING; the command's result is discarded with it. -/
def execHostAccessEnd (a : HostAccess) (s : State) : Result :=
  if a = .commandBuffer ∧ s.host.state = .detaching ∧ s.unit.access.isSome then .next (discardCommand s)
  else .next (endDiscarded a s)

/-! ## Credits (R131) -/

/-- The requester may ask for a credit: the device is ATTACHED, its queue ACTIVE with a record available, and no fetch is held
(R132, R133). -/
def State.mayFetch (s : State) (r : Requester) : Bool :=
  match r with
  | .commandUnit =>
    s.attached && s.unit.stage == .idle && (s.queue cq).state == .active && 0 < (s.queue cq).available
  | .fetcher l =>
    s.attached && (s.fetcher l).stage == .none && (s.queue (sq l)).state == .active && 0 < (s.queue (sq l)).available

/-- A requester pauses at the tail of the credit waiters (R131). -/
def waitForCredit (r : Requester) (s : State) : State :=
  let s := { s with status := { s.status with waiters := s.status.waiters ++ [r] } }
  match r with
  | .commandUnit => { s with unit := { s.unit with stage := .credit } }
  | .fetcher l => s.modFetcher l fun f => { f with stage := .credit }

/-- CREDIT_REQUEST (R131): the first claim of a fetch, granted with credits 1 or more and no waiter ahead. -/
def execCreditRequest (r : Requester) (s : State) : Result :=
  if s.mayFetch r then
    if 0 < s.credits ∧ s.status.waiters = [] then .next (grantCredit r s) else .next (waitForCredit r s)
  else .next s

/-! ## Index reads (R130) -/

/-- The queue is a consumer ring: a DQ or the STQ (R128). -/
def isConsumerRing (q : QueueId) : Bool := 5 ≤ q.val

/-- A host word read is acceptable: within 0 to size - 1, and for a consumer ring within the span from the known host index
forward to the device index (R130). -/
def Queue.accepts (x : Queue) (consumer : Bool) (value : Nat) : Bool :=
  value < x.desc.size
    && (!consumer || (value + x.desc.size - x.known) % x.desc.size ≤ (x.device + x.desc.size - x.known) % x.desc.size)

/-- A queue's index read or access has failed: the STQ takes the device to FAULTED, any other queue faults (R139, R143). -/
def failQueue (q : QueueId) (cause : FaultCause) (s : State) : State :=
  if q = stq then enterFaulted s else faultQueue q cause s

/-- The value of a host word: its four bytes, least significant first, with no reserved bits (R166, section 12.1). -/
def hostWord (word : List Byte) : Nat := field word 0 4

/-- INDEX_READ_END (R130): the value becomes the known host index, or faults the queue. It arises while an index read of the
queue is outstanding. -/
def execIndexReadEnd (q : QueueId) (word : List Byte) (s : State) : Result :=
  let x := s.queue q
  if x.reading then
    if x.accepts (isConsumerRing q) (hostWord word) then
      let s := s.modQueue q fun x => { x with known := hostWord word, reading := x.reread, reread := false }
      .next (if q = stq then serveCredits s else s)
    else .next (failQueue q .badIndex (s.modQueue q fun x => { x with reading := false }))
  else .next s

/-! ## Host-memory faults (R139, R143) -/

/-- The mailbox read in progress ends: its reference is released and it becomes absent (R89). -/
def endMailboxRead (s : State) : State :=
  match s.mailboxRead with
  | some r => releaseSlot r.slot { s with mailboxRead := none }
  | none => s

/-- Result word 0 of MAILBOX_READ: what the read recorded (R89, section 12.6). -/
def MailboxRead.word (r : MailboxRead) : BitVec 64 := packWord [(0, r.fresh.toNat), (8, r.overwrites)]

/-- The write of a mailbox read ends, and the command completes with what the read recorded (R89). -/
def finishMailboxRead (result : ResultCode) (s : State) : State :=
  match s.mailboxRead with
  | some r => complete result r.word 0#64 (endMailboxRead s)
  | none => s

/-- A fault of the own buffer of the command in execution: it completes HOST_FAULT, with what its rule gives it (R36, R73, R89, R118,
R123, R125, R139, R140). -/
def commandBufferFault (s : State) : State :=
  match s.unit.access with
  | some .descriptorRead => completePlain .hostFault s
  | some (.linkStatusWrite _) => completePlain .hostFault s
  | some (.ruleImageWrite _ word0) => complete .hostFault word0 0#64 s
  | some .frameImageWrite => finishMailboxRead .hostFault s
  | some (.payloadRead i) => completePlain .hostFault (releaseSlot i s)
  | some .bufferRead => completePlain .hostFault s
  | some (.cyclicStatusWrite _) => completePlain .hostFault s
  | none => s

/-- The CQ device-word write is no longer outstanding (R132). -/
def CommandUnit.wordEnded (u : CommandUnit) : CommandUnit :=
  { u with wordWrite := false, stage := if u.stage = .finishing then .idle else u.stage }

/-- The access is under way and its effect is not discarded. -/
def State.accessLive (s : State) (a : HostAccess) : Bool :=
  match a with
  | .controlBlock => s.host.state == .attaching
  | .indexRead q => (s.queue q).reading
  | .commandRecord => s.unit.stage == .reading
  | .cqDeviceWord => s.unit.wordWrite
  | .sendRecord l => (s.fetcher l).stage == .reading
  | .sqDeviceWord l => (s.fetcher l).stage == .index
  | .deliveryRecord d => (s.writer d).stage == .record
  | .dqDeviceWord d => (s.writer d).stage == .index
  | .statusRecord => s.status.stage == .record
  | .stqDeviceWord => s.status.stage == .index
  | .commandBuffer => s.unit.access.isSome

/-- A live access ends in a host-memory fault (R139, R141, R143). -/
def faultAccess (a : HostAccess) (s : State) : State :=
  match a with
  | .controlBlock => attachFailed .hostFault s
  | .indexRead q => failQueue q .hostFault (s.modQueue q fun x => { x with reading := false })
  | .commandRecord => faultQueue cq .hostFault (giveBackCredit { s with unit := { s.unit with stage := .idle } })
  | .cqDeviceWord => faultQueue cq .hostFault { s with unit := s.unit.wordEnded }
  | .sendRecord l =>
    faultQueue (sq l) .hostFault
      (giveBackCredit (releasePlace l (releaseFetchSlot l (s.modFetcher l fun f => { f with stage := .none }))))
  | .sqDeviceWord l => faultQueue (sq l) .hostFault (s.modFetcher l fun f => { f with stage := .none })
  | .deliveryRecord d => faultQueue (dq d) .hostFault (s.modWriter d fun w => { w with stage := .idle })
  | .dqDeviceWord d => faultQueue (dq d) .hostFault (s.modWriter d fun w => { w with stage := .idle })
  | .statusRecord => enterFaulted { s with status := { s.status with stage := .idle, current := none } }
  | .stqDeviceWord => enterFaulted { s with status := { s.status with stage := .idle, current := none } }
  | .commandBuffer => endCommandAccess commandBufferFault s

/-- HOST_MEMORY_FAULT (R139): an access ends in a fault. The fault of an access whose effect is already discarded is no more than
that access's end (R142, R144; log 24). -/
def execHostMemoryFault (a : HostAccess) (s : State) : Result :=
  if s.accessLive a then .next (faultAccess a s) else .next (endDiscarded a s)

end Sys2Proof.Machine
end

