-- ==== Sys2Proof/Machine/HostQueues.lean ====
section
/-! DEFINITION. The host queues at work (chapter 9): commands and send records taken, delivery and status writes, notices and
coalescing. -/

namespace Sys2Proof.Machine

/-- The device index of a queue advances by one (R128). -/
def advanceDevice (q : QueueId) (s : State) : State := s.modQueue q fun x => { x with device := x.advanced }

/-! ## The command unit (R132, R145, R147) -/

/-- A command that has passed checks 1 to 3: NOP completes at once (R147), any other is handed to its owner (R132). -/
def handCommand (tag : BitVec 32) (c : Command) (s : State) : State :=
  match c with
  | .nop => completeAs (commandCode .nop) tag .ok 0#64 0#64 s
  | c => { s with unit := { s.unit with stage := .executing, execution := some { tag := tag, command := c, access := none } } }

/-- A command record is taken (R132): the CQ device index advances, its device-word write starts, and the command is checked and
handed on, or completed under the check it fails (R145). -/
def takeCommandRecord (record : List Byte) (s : State) : State :=
  let s := advanceDevice cq s
  let s := { s with unit := { s.unit with wordWrite := true } }
  match decodeCommand record with
  | .error code => completeAs (field record 0 1) (commandTag record) code 0#64 0#64 s
  | .ok c => handCommand (commandTag record) c s

/-- COMMAND_TAKEN (R132): the read of the command record ends. -/
def execCommandTaken (record : List Byte) (s : State) : Result :=
  if s.unit.stage = .reading then .next (takeCommandRecord record s) else .next s

/-- NOP (R147): it is completed in the happening in which its record is taken (log 4). -/
def execNop (tag : BitVec 32) (s : State) : Result :=
  if s.unit.stage = .reading then .next (takeCommandRecord (encodeCommand tag .nop) s) else .next s

/-- CQ_DEVICE_WORD_WRITE_END (R132). -/
def execCqDeviceWordWriteEnd (s : State) : Result :=
  if s.unit.wordWrite then .next { s with unit := s.unit.wordEnded } else .next s

/-! ## Send fetchers (R133) -/

/-- What the checks make of a send record in a slot: rejected and completed, or handed for HOST admission (R133). -/
def judgeSendRecord (l : LinkId) (record : List Byte) (i : SlotId) (s : State) : State :=
  let a := sendRecordAdmission record i
  match sendRecordCheck record with
  | some outcome => handCompletion (.sendDone l a.tag outcome 0 s.time) (releasePlace l (releaseSlot i s))
  | none => s.modFetcher l fun f => { f with admission := some a }

/-- SEND_RECORD_TAKEN (R133): the read of the send record ends. The device index advances, the device-word write starts, the slot is
filled and the record is checked. -/
def execSendRecordTaken (l : LinkId) (record : List Byte) (s : State) : Result :=
  match (s.fetcher l).stage, (s.fetcher l).slot with
  | .reading, some i =>
    let s := advanceDevice (sq l) s
    let s := s.modFetcher l fun f => { f with stage := .index, slot := none }
    .next (judgeSendRecord l record i (fillSlot i (sendRecordFrame record l s.time) s))
  | _, _ => .next s

/-- SQ_DEVICE_WORD_WRITE_END (R133): the fetch ends. -/
def execSqDeviceWordWriteEnd (l : LinkId) (s : State) : Result :=
  if (s.fetcher l).stage = .index then .next (s.modFetcher l fun f => { f with stage := .none }) else .next s

/-! ## Delivery writers (R134, R135) -/

/-- A backlog append is taken: accepted with a reference of its own, or refused and counted (R134, R135). -/
def appendBacklog (d : DeliveryId) (b : BacklogEntry) (s : State) : State :=
  if s.attached ∧ (s.queue (dq d)).state = .active ∧ (s.writer d).backlog.length < Config.backlogCapacity then
    (addReference b.slot s).modWriter d fun w => { w with backlog := w.backlog ++ [b] }
  else countDrop d s

/-- BACKLOG_APPEND (R66, R134): the delivery writer takes the next delivery hand-over of the classification in dispatch. -/
def execBacklogAppend (d : DeliveryId) (s : State) : Result :=
  match s.routing.classification with
  | none => .next s
  | some c =>
    match c.stage, c.outQueues with
    | .dispatch, (d', tag) :: rest =>
      if d' = d then
        let s := { s with routing := { s.routing with classification := some { c with outQueues := rest } } }
        .next (appendBacklog d { slot := c.entry, tag := tag, firstRule := c.firstRule } s)
      else .next s
    | _, _ => .next s

/-- DELIVERY_WRITE_START (R134): an IDLE writer with a backlog and a ring that is not full starts writing its head entry. -/
def execDeliveryWriteStart (d : DeliveryId) (s : State) : Result :=
  let w := s.writer d
  let x := s.queue (dq d)
  if s.attached ∧ x.state = .active ∧ w.stage = .idle ∧ w.backlog ≠ [] ∧ x.full = false then
    .next (s.modWriter d fun w => { w with stage := .record })
  else .next s

/-- DELIVERY_RECORD_WRITE_END (R134): the device index advances and the device-word write starts. -/
def execDeliveryRecordWriteEnd (d : DeliveryId) (s : State) : Result :=
  if (s.writer d).stage = .record then
    .next ((advanceDevice (dq d) s).modWriter d fun w => { w with stage := .index })
  else .next s

/-- DQ_DEVICE_WORD_WRITE_END (R134, R138): the head leaves the backlog, its slot is released and one record is counted. -/
def execDqDeviceWordWriteEnd (d : DeliveryId) (s : State) : Result :=
  let w := s.writer d
  if w.stage = .index then
    let s := s.modWriter d fun w => { w with backlog := w.backlog.tail, stage := .idle }
    let s := match w.backlog.head? with
      | some b => releaseSlot b.slot s
      | none => s
    .next (countRecord (dq d) s)
  else .next s

/-! ## The status writer (R136, R137) -/

/-- The status writer writes this record next. -/
def writeStatus (item : StatusItem) (s : State) : State :=
  { s with status := { s.status with stage := .record, current := some item } }

/-- The head notice leaves the list; with a lost count above 0 a NOTICES_LOST joins the tail and the count is reset (R137). -/
def takeNotice (rest : List Notice) (s : State) : State :=
  if s.lost = 0 then { s with notices := rest }
  else { s with notices := rest ++ [{ body := .noticesLost s.lost, time := s.time }], lost := 0 }

/-- STATUS_WRITE_START (R136): the IDLE writer takes the oldest completion, or with a credit the head notice. -/
def execStatusWriteStart (s : State) : Result :=
  if s.attached ∧ s.status.stage = .idle ∧ (s.queue stq).state = .active then
    match s.status.completions, s.notices with
    | c :: rest, _ => .next (writeStatus (.completion c) { s with status := { s.status with completions := rest } })
    | [], n :: rest => if 0 < s.credits then .next (writeStatus (.notice n) (takeNotice rest s)) else .next s
    | [], [] => .next s
  else .next s

/-- The reservation of the record just written is used; a notice has none (R131; log 14). -/
def StatusWriter.useReservation (w : StatusWriter) : StatusWriter :=
  match w.current with
  | some (.completion _) => { w with reserved := w.reserved - 1 }
  | some (.notice _) => w
  | none => w

/-- STATUS_RECORD_WRITE_END (R136): the device index advances, the lap value flips if it wraps, and the device-word write starts. -/
def execStatusRecordWriteEnd (s : State) : Result :=
  if s.status.stage = .record then
    let wraps := (s.queue stq).advanced = 0
    let s := advanceDevice stq s
    .next { s with status := { s.status.useReservation with
      stage := .index, current := none, lap := if wraps then !s.status.lap else s.status.lap } }
  else .next s

/-- STQ_DEVICE_WORD_WRITE_END (R136, R138): the record is counted and the writer is IDLE. -/
def execStqDeviceWordWriteEnd (s : State) : Result :=
  if s.status.stage = .index then .next (countRecord stq { s with status := { s.status with stage := .idle } }) else .next s

/-! ## Notices (R137) -/

/-- Who posts a notice (R137). -/
def NoticeBody.source : NoticeBody → NoticeSource
  | .linkState l _ _ => .link l
  | .linkHealth l _ _ _ => .link l
  | .linkStuck l => .link l
  | .linkFreed l => .link l
  | .queueFault _ _ => .hostInterface
  | .deliveryDropped d _ => .deliveryWriter d
  | .mailboxFresh _ _ _ => .mailboxTable
  | .noticesLost _ => .hostInterface

/-- A posted notice is taken by the table of R137. -/
def takePosted (n : Notice) (s : State) : State :=
  if s.attached then
    if s.notices.length < Config.noticeCapacity then { s with notices := s.notices ++ [n] }
    else { s with lost := saturatingSucc Config.counterLimit s.lost }
  else s

/-- NOTICE_POST (R137): the oldest notice posted by a source is taken (log 15). -/
def execNoticePost (source : NoticeSource) (s : State) : Result :=
  match s.posted.find? fun n => n.body.source = source with
  | some n => .next (takePosted n { s with posted := s.posted.erase n })
  | none => .next s

/-! ## Coalescing (R138) -/

/-- HOLDOFF_EXPIRY (R138): a running holdoff's time is reached; with records counted the queue raises its cause. -/
def execHoldoffExpiry (q : QueueId) (s : State) : Result :=
  match (s.queue q).holdoffEnd with
  | none => .next s
  | some t =>
    if reached s.time t then
      let s := s.modQueue q fun x => { x with holdoffEnd := none }
      .next (if 0 < (s.queue q).counted then raiseQueueCause q s else s)
    else .next s

end Sys2Proof.Machine
end

