-- ==== Sys2Proof/Machine/LinkCommands.lean ====
section
/-! DEFINITION. The commands of the link controllers (R19-R21, R29, R30, R32, R36, R149-R151). -/

namespace Sys2Proof.Machine

/-! ## Entry to OFFLINE (R21, R111) -/

/-- The in-flight entry of a link entering OFFLINE is cut: ended LINK_DOWN, or released if orphaned (R21, R111, R113). -/
def cutAttempt (l : LinkId) (s : State) : State :=
  match (s.set l).inFlight with
  | none => s
  | some e => if e.orphaned then dropEntry l e (landEntry l s) else endEntry l e .linkDown (landEntry l s)

/-- A link controller with its transceiver released: no reception, no run, neither flag, not following the bus (R13, R21). -/
def Link.releaseBus (k : Link) : Link :=
  { k with reception := none, recessiveRun := 0, dominantRun := 0, stuck := false, deferral := false, following := false,
           idleIn := 0, probation := none }

/-- Entry to OFFLINE, in the order of R21. Configuration and counters are kept. -/
def enterOffline (l : LinkId) (s : State) : State :=
  let s := cutAttempt l (setMode l .offline s)
  let s := clearPending l .linkDown s
  (setScore l 0 s).modLink l Link.releaseBus

/-! ## Mode changes (R19) -/

/-- What LINK_MODE does on the pair of present and requested mode (R19): the result and the state after. -/
def changeMode (l : LinkId) (requested : RequestedMode) (s : State) : ResultCode × State :=
  let k := s.link l
  match k.mode, requested with
  | .offline, .offline => (.ok, s)
  | .offline, .online => if k.config.bitTime = 0 then (.wrongState, s) else (.ok, setMode l (.joining .online) s)
  | .offline, .listen => if k.config.bitTime = 0 then (.wrongState, s) else (.ok, setMode l (.joining .listen) s)
  | .offline, .suspended => (.wrongState, s)
  | .joining _, .offline => (.ok, enterOffline l s)
  | .joining _, .online => (.ok, setMode l (.joining .online) s)
  | .joining _, .listen => (.ok, setMode l (.joining .listen) s)
  | .joining _, .suspended => (.ok, setMode l .suspended s)
  | .online, .offline => (.ok, enterOffline l s)
  | .online, .online => (.ok, s)
  | .online, .listen => (.ok, setMode l .listen s)
  | .online, .suspended => (.ok, setMode l .suspended s)
  | .listen, .offline => (.ok, enterOffline l s)
  | .listen, .online => (.ok, setMode l .online s)
  | .listen, .listen => (.ok, s)
  | .listen, .suspended => (.ok, setMode l .suspended s)
  | .suspended, .offline => (.ok, enterOffline l s)
  | .suspended, .online => (.ok, setMode l (.joining .online) s)
  | .suspended, .listen => (.ok, setMode l (.joining .listen) s)
  | .suspended, .suspended => (.ok, s)
  | .isolated, .offline => (.ok, enterOffline l s)
  | .isolated, .online => (.wrongState, s)
  | .isolated, .listen => (.wrongState, s)
  | .isolated, .suspended =>
    (.ok, setScore l 0 ((setMode l .suspended s).modLink l fun k => { k with probation := none }))

/-- Result word 0 of LINK_MODE, LINK_RECOVER and LINK_FORCE: the mode before, and the mode, join target and score after (R150,
section 12.6). -/
def modeWord (before : Mode) (after : Link) : BitVec 64 :=
  packWord [(0, before.code), (8, after.mode.code), (16, after.mode.targetCode), (24, after.score)]

/-- A link command completes with the word of R150, `s` being the state before and `r` its result. -/
def completeMode (l : LinkId) (s : State) (r : ResultCode × State) : State :=
  complete r.1 (modeWord (s.link l).mode (r.2.link l)) 0#64 r.2

/-- LINK_MODE (R19, R21, R150). -/
def execLinkMode (l : LinkId) (mode : RequestedMode) (s : State) : Result :=
  takeCommand (.linkMode l mode) (fun s => completeMode l s (changeMode l mode s)) s

/-- What LINK_RECOVER does (R29): probation starts, or starts again, from 0 in ISOLATED under MANUAL. -/
def recoverLink (l : LinkId) (s : State) : ResultCode × State :=
  let k := s.link l
  if k.mode = .isolated ∧ k.config.recoveryPolicy = .manual then (.ok, s.modLink l fun k => { k with probation := some 0 })
  else (.wrongState, s)

/-- LINK_RECOVER (R29, R150). -/
def execLinkRecover (l : LinkId) (s : State) : Result :=
  takeCommand (.linkRecover l) (fun s => completeMode l s (recoverLink l s)) s

/-- What LINK_FORCE does (R30): in ISOLATED probation is abandoned, the score is 0 and the link enters ONLINE. -/
def forceLink (l : LinkId) (s : State) : ResultCode × State :=
  if (s.link l).mode = .isolated then
    (.ok, setMode l .online (setScore l 0 (s.modLink l fun k => { k with probation := none })))
  else (.wrongState, s)

/-- LINK_FORCE (R30, R150). -/
def execLinkForce (l : LinkId) (s : State) : Result :=
  takeCommand (.linkForce l) (fun s => completeMode l s (forceLink l s)) s

/-! ## Configuration and status (R32, R36) -/

/-- LINK_CONFIG (R32, R149): in OFFLINE the whole configuration is replaced; otherwise WRONG_STATE with the mode. -/
def execLinkConfig (l : LinkId) (cfg : LinkConfig) (s : State) : Result :=
  takeCommand (.linkConfig l cfg)
    (fun s =>
      let k := s.link l
      if k.mode = .offline then completePlain .ok (s.modLink l fun k => { k with config := cfg })
      else complete .wrongState (packWord [(0, k.mode.code)]) 0#64 s) s

/-- LINK_STATUS (R36): the snapshot is taken, then the counters are cleared if asked, and the write of the block starts. -/
def execLinkStatus (l : LinkId) (address : HostAddress) (clear : Bool) (s : State) : Result :=
  takeCommand (.linkStatus l address clear)
    (fun s =>
      let block := linkStatusBlock (s.link l)
      let s := if clear then s.modLink l fun k => { k with counters := LinkCounters.zero } else s
      startAccess (.linkStatusWrite block) s) s

/-- LINK_STATUS_WRITE_END (R36). -/
def execLinkStatusWriteEnd (result : AccessEnd) (s : State) : Result :=
  match s.unit.execution.bind (·.access) with
  | some (.linkStatusWrite _) =>
    .next (endCommandAccess (completePlain (if result = .done then .ok else .hostFault)) s)
  | _ => .next s

end Sys2Proof.Machine
end

