-- ==== Sys2Proof/Machine/Mailboxes.lean ====
section
/-! DEFINITION. The mailbox table (chapter 6): stores, reads, clearing and configuring. -/

namespace Sys2Proof.Machine

/-- The store of a slot into a mailbox, in the order of R86. -/
def storeMailbox (m : MailboxId) (i : SlotId) (s : State) : State :=
  let old := s.mailbox m
  let f := (s.slot i).frame
  let s := addReference i s
  let s := match old.content with
    | some c => releaseSlot c.slot s
    | none => s
  let s := s.modMailbox m fun x =>
    { x with overwrites := if x.fresh then saturatingSucc Config.overwriteLimit x.overwrites else x.overwrites,
             content := some { slot := i, arrival := f.arrival, ingress := f.ingress },
             fresh := true }
  postIf (old.notify && !old.fresh) (.mailboxFresh m f.key f.ingress) s

/-- The next mailbox hand-over of the classification is answered (R64). -/
def answerMailbox (c : Classification) (s : State) : State :=
  { s with routing := { s.routing with classification := some { c with outMailboxes := c.outMailboxes.tail } } }

/-- MAILBOX_STORE (R67, R86): the table takes the next store of the classification in dispatch, which is always accepted. -/
def execMailboxStore (m : MailboxId) (s : State) : Result :=
  match s.routing.classification with
  | none => .next s
  | some c =>
    if c.stage = .dispatch ∧ c.outMailboxes.head? = some m then .next (storeMailbox m c.entry (answerMailbox c s)) else .next s

/-- A full mailbox is read: the read in progress is made with a reference of its own, fresh and the overwrite count are cleared, and
the write of the frame image starts (R88). -/
def beginMailboxRead (m : MailboxId) (address : HostAddress) (c : MailboxContent) (s : State) : State :=
  let x := s.mailbox m
  let s := addReference c.slot s
  let s := { s with mailboxRead := some { mailbox := m, slot := c.slot, address := address, ingress := c.ingress,
                                          arrival := c.arrival, fresh := x.fresh, overwrites := x.overwrites } }
  startAccess .frameImageWrite (s.modMailbox m fun x => { x with fresh := false, overwrites := 0 })

/-- MAILBOX_READ (R88): EMPTY of an empty mailbox, otherwise the read begins. -/
def execMailboxRead (m : MailboxId) (address : HostAddress) (s : State) : Result :=
  takeCommand (.mailboxRead m address)
    (fun s =>
      match (s.mailbox m).content with
      | none => completePlain .empty s
      | some c => beginMailboxRead m address c s) s

/-- MAILBOX_READ_WRITE_END (R89): the read's reference is released and the command completes with what the read recorded. -/
def execMailboxReadWriteEnd (result : AccessEnd) (s : State) : Result :=
  match s.unit.access with
  | some .frameImageWrite =>
    .next (endCommandAccess (finishMailboxRead (if result = .done then .ok else .hostFault)) s)
  | _ => .next s

/-- Result word 0 of MAILBOX_CLEAR: the state before it (R91, section 12.6). -/
def mailboxClearWord (x : Mailbox) : BitVec 64 :=
  packWord [(0, x.content.isSome.toNat), (1, x.fresh.toNat), (8, x.overwrites)]

/-- A full mailbox is emptied and its reference released; an empty one is left as it is (R91). -/
def emptyMailbox (m : MailboxId) (s : State) : State :=
  match (s.mailbox m).content with
  | none => s
  | some c => releaseSlot c.slot (s.modMailbox m fun x => { x with content := none, fresh := false, overwrites := 0 })

/-- MAILBOX_CLEAR (R91). -/
def execMailboxClear (m : MailboxId) (s : State) : Result :=
  takeCommand (.mailboxClear m)
    (fun s => complete .ok (mailboxClearWord (s.mailbox m)) 0#64 (emptyMailbox m s)) s

/-- MAILBOX_CONFIG (R92): the previous notify and the present fresh state are reported. -/
def execMailboxConfig (m : MailboxId) (notify : Bool) (s : State) : Result :=
  takeCommand (.mailboxConfig m notify)
    (fun s =>
      let x := s.mailbox m
      let word := packWord [(0, x.notify.toNat), (1, x.fresh.toNat)]
      complete .ok word 0#64 (s.modMailbox m fun x => { x with notify := notify })) s

end Sys2Proof.Machine
end

