-- ==== Sys2Proof/Machine/QueueCommands.lean ====
section
/-! DEFINITION. The queue commands (R135, R140, R148). -/

namespace Sys2Proof.Machine

/-- QUEUE_ENABLE (R140, R148): WRONG_STATE with the state of an ACTIVE or FAULTED queue, otherwise the read of its descriptor. -/
def execQueueEnable (q : QueueId) (s : State) : Result :=
  takeCommand (.queueEnable q)
    (fun s =>
      let x := s.queue q
      if x.state = .disabled then startAccess .descriptorRead s
      else complete .wrongState (packWord [(0, x.state.code)]) 0#64 s) s

/-- The drop-notice arm of a delivery queue is set; other queues have none (R135, R140). -/
def armDrops (q : QueueId) (s : State) : State :=
  match queueKind q with
  | .delivery d => s.modWriter d fun w => { w with arm := true }
  | .command => s
  | .send _ => s
  | .status => s

/-- The end of a descriptor read (R140): the queue is loaded and ACTIVE if the descriptor is valid by R127. -/
def finishQueueEnable (q : QueueId) (bytes : List Byte) (s : State) : State :=
  if descriptorValid q bytes then completePlain .ok (armDrops q (loadQueue q (descriptorOf bytes) s))
  else completePlain .badArgument s

/-- QUEUE_ENABLE_DESCRIPTOR_READ_END (R140, R148). -/
def execQueueEnableDescriptorReadEnd (result : BytesRead) (s : State) : Result :=
  match s.unit.execution with
  | some { tag := _, command := .queueEnable q, access := some .descriptorRead } =>
    match result with
    | .fault => .next (endCommandAccess (completePlain .hostFault) s)
    | .data bytes => .next (endCommandAccess (finishQueueEnable q bytes) s)
  | _ => .next s

/-- What QUEUE_DISABLE does to a queue in any state: its fetch or backlog goes, writes and index reads under way are discarded, and it
is DISABLED with no cause (R140). -/
def disableQueue (q : QueueId) (s : State) : State :=
  let s := match queueKind q with
    | .send l => dropSqWord l (withdrawFetch l s)
    | .delivery d => dropBacklog d s
    | .command => s
    | .status => s
  (dropIndexRead q s).modQueue q Queue.disabled

/-- QUEUE_DISABLE (R140, R148). -/
def execQueueDisable (q : QueueId) (s : State) : Result :=
  takeCommand (.queueDisable q) (fun s => completePlain .ok (disableQueue q s)) s

/-- Result word 0 of QUEUE_STATUS (R135, section 12.6). -/
def queueWord (x : Queue) : BitVec 64 :=
  packWord [(0, x.state.code), (8, faultCauseCode x.cause), (16, x.desc.size), (32, x.device), (48, x.known)]

/-- Result word 1 of QUEUE_STATUS for a delivery queue (R135, section 12.6). -/
def deliveryWord (w : DeliveryWriter) : BitVec 64 := packWord [(0, w.backlog.length), (32, w.drops.toNat)]

/-- QUEUE_STATUS (R135, R148): the snapshot is reported; for a DQ the drop count is then cleared and the arm set. -/
def execQueueStatus (q : QueueId) (s : State) : Result :=
  takeCommand (.queueStatus q)
    (fun s =>
      match queueKind q with
      | .delivery d =>
        complete .ok (queueWord (s.queue q)) (deliveryWord (s.writer d))
          (s.modWriter d fun w => { w with drops := 0#32, arm := true })
      | .command => complete .ok (queueWord (s.queue q)) 0#64 s
      | .send _ => complete .ok (queueWord (s.queue q)) 0#64 s
      | .status => complete .ok (queueWord (s.queue q)) 0#64 s) s

end Sys2Proof.Machine
end

