-- ==== Sys2Proof/Machine/RoutingEngine.lean ====
section
/-! DEFINITION. The routing engine (chapter 4): classification, its end, and the commands on rule banks. -/

namespace Sys2Proof.Machine

/-! ## Banks (R51) -/

/-- The other bank. -/
def BankId.other : BankId → BankId
  | .a => .b
  | .b => .a

/-- A bank by its letter. -/
def Routing.bank (r : Routing) : BankId → Bank
  | .a => r.bankA
  | .b => r.bankB

/-- A bank replaced. -/
def Routing.setBank (r : Routing) (letter : BankId) (bank : Bank) : Routing :=
  match letter with
  | .a => { r with bankA := bank }
  | .b => { r with bankB := bank }

/-- The active bank. -/
def Routing.activeBank (r : Routing) : Bank := r.bank r.active

/-- The staging bank. -/
def Routing.stagingBank (r : Routing) : Bank := r.bank r.active.other

/-- A change of the staging bank (R69-R71). -/
def modStaging (f : Bank → Bank) (s : State) : State :=
  { s with routing := s.routing.setBank s.routing.active.other (f s.routing.stagingBank) }

/-! ## Evaluation (R56-R60, R63) -/

/-- The origin filter allows the origin of the frame (R56). -/
def originAllowed (filter : OriginFilter) (origin : FrameOrigin) : Bool :=
  match filter, origin with
  | .received, .received => true
  | .loopback, .loopback => true
  | .both, .received => true
  | .both, .loopback => true
  | _, _ => false

/-- A rule matches a frame (R56). -/
def ruleMatches (r : Rule) (f : Frame) : Bool :=
  r.ingress.getLsbD f.ingress.val && originAllowed r.origin f.origin && (f.key &&& r.keyMask) == (r.keyValue &&& r.keyMask)
    && r.lengthMin ≤ f.payload.length && f.payload.length ≤ r.lengthMax

/-- What the walk has gathered so far (R57): the first rule index, destinations in the order in which rules named them, and the
twin group. -/
structure Walk where
  first : Option RuleIndex
  links : List (LinkId × Key)
  queues : List (DeliveryId × BitVec 16)
  mailboxes : List MailboxId
  twin : Option GroupId
  deriving DecidableEq, Repr

/-- Before the walk. -/
def Walk.start : Walk := { first := none, links := [], queues := [], mailboxes := [], twin := none }

/-- Destinations named for the first time join with the value that goes with this rule; the others keep theirs (R58, R59). -/
def addNamed {α β : Type} [DecidableEq α] (named : List α) (value : β) (present : List (α × β)) : List (α × β) :=
  present ++ (named.filter fun a => !(present.any fun p => p.1 = a)).map fun a => (a, value)

/-- A matched rule's mailbox joins the list unless it is there or the list holds four (R60). -/
def addMailbox (mailbox : Option MailboxId) (present : List MailboxId) : List MailboxId :=
  match mailbox with
  | none => present
  | some m => if m ∈ present ∨ Config.mailboxesPerClassification ≤ present.length then present else present ++ [m]

/-- The contributions of a matched rule (R57-R60, R63). -/
def Walk.add (i : RuleIndex) (r : Rule) (f : Frame) (w : Walk) : Walk :=
  { first := w.first <|> some i
    links := addNamed (allLinks.filter fun l => r.links.getLsbD l.val) (r.rewriteKey.getD f.key) w.links
    queues := addNamed (allDeliveries.filter fun d => r.delivery.getLsbD d.val) r.tag w.queues
    mailboxes := addMailbox r.mailbox w.mailboxes
    twin := w.twin <|> r.twin }

/-- The walk over rules in index order, stopping after a matched rule with CONTINUE clear (R57). -/
def walkRules (f : Frame) : List (RuleIndex × Rule) → Walk → Walk
  | [], w => w
  | (i, r) :: rest, w =>
    if ruleMatches r f then (if r.continueWalk then walkRules f rest (w.add i r f) else w.add i r f)
    else walkRules f rest w

/-- The rules a walk visits: those below the bank's count (R51, R57). -/
def Bank.counted (b : Bank) : List (RuleIndex × Rule) :=
  ((List.finRange 256).take b.count).map fun i => (i, b.rules[i.val])

/-- The walk of a frame over a bank (R57). -/
def Bank.walk (b : Bank) (f : Frame) : Walk := walkRules f b.counted Walk.start

/-! ## Classification (R55, R61-R64) -/

/-- The link destinations without the frame's own link, in ascending order (R61, R64). -/
def Walk.resultLinks (w : Walk) (ingress : LinkId) : List (LinkId × Key) :=
  (allLinks.filter fun l => l != ingress).filterMap fun l => w.links.find? fun p => p.1 = l

/-- The delivery destinations in ascending order (R64). -/
def Walk.resultQueues (w : Walk) : List (DeliveryId × BitVec 16) :=
  allDeliveries.filterMap fun d => w.queues.find? fun p => p.1 = d

/-- The classification goes to dispatch: every destination becomes a hand-over not yet answered (R64). -/
def Classification.dispatched (c : Classification) : Classification :=
  { c with stage := .dispatch, outLinks := c.links, outQueues := c.queues, outMailboxes := c.mailboxes }

/-- The frame is dropped whole: no hand-over is made (R61-R63). -/
def Classification.dropped (c : Classification) : Classification :=
  { c with stage := .dispatch, outLinks := [], outQueues := [], outMailboxes := [] }

/-- The record of a walk's result, before it goes to the twin check or to dispatch (R55). -/
def Walk.record (w : Walk) (entry : SlotId) (f : Frame) (now : Time) : Classification :=
  { entry := entry, time := now, firstRule := w.first, links := w.resultLinks f.ingress, queues := w.resultQueues,
    mailboxes := w.mailboxes, twinGroup := w.twin, stage := .twinWait, outLinks := [], outQueues := [], outMailboxes := [] }

/-- The record of a frame that matched no rule and goes to the unmatched queue, or nowhere (R62). -/
def unmatchedRecord (queue : Option DeliveryId) (entry : SlotId) (now : Time) : Classification :=
  { entry := entry, time := now, firstRule := none, links := [], queues := (queue.map fun d => (d, 0#16)).toList, mailboxes := [],
    twinGroup := none, stage := .twinWait, outLinks := [], outQueues := [], outMailboxes := [] }

/-- The union of the destinations is empty (R61). -/
def Classification.resultEmpty (c : Classification) : Bool := c.links.isEmpty && c.queues.isEmpty && c.mailboxes.isEmpty

/-- A classification is in progress with this record. -/
def setClassification (c : Option Classification) (s : State) : State :=
  { s with routing := { s.routing with classification := c } }

/-- A frame that matched a rule: dropped whole if its result is empty, then the twin check or dispatch (R61, R63, R68). -/
def classifyMatched (c : Classification) (f : Frame) (s : State) : State :=
  if c.resultEmpty then
    setClassification (some c.dropped) (count f.ingress (fun k => { k with dropByRule := k.dropByRule + 1#32 }) s)
  else if c.twinGroup.isSome ∧ f.origin = .received then setClassification (some c) s
  else setClassification (some c.dispatched) s

/-- A frame that matched no rule: to the unmatched queue of its ingress link, or dropped and counted (R62). -/
def classifyUnmatched (entry : SlotId) (f : Frame) (s : State) : State :=
  match (s.link f.ingress).config.unmatchedQueue with
  | some d => setClassification (some (unmatchedRecord (some d) entry s.time).dispatched) s
  | none =>
    setClassification (some (unmatchedRecord none entry s.time).dropped)
      (count f.ingress (fun k => { k with dropUnmatched := k.dropUnmatched + 1#32 }) s)

/-- CLASSIFICATION (R55): the oldest entry is evaluated against the active bank. It arises with an entry in the list and no
classification in progress. -/
def execClassification (s : State) : Result :=
  match s.routing.classification, s.routing.input with
  | none, entry :: _ =>
    let f := (s.slot entry).frame
    let w := s.routing.activeBank.walk f
    if w.first.isSome then .next (classifyMatched (w.record entry f s.time) f s) else .next (classifyUnmatched entry f s)
  | _, _ => .next s

/-- Every hand-over has been answered (R64). -/
def Classification.answered (c : Classification) : Bool :=
  c.stage == .dispatch && c.outLinks.isEmpty && c.outQueues.isEmpty && c.outMailboxes.isEmpty

/-- CLASSIFICATION_END (R64): the entry leaves the list, its reference is released and the record is discarded. It arises once every
hand-over has been answered, or the frame has been dropped whole. -/
def execClassificationEnd (s : State) : Result :=
  match s.routing.classification with
  | none => .next s
  | some c =>
    if c.answered then
      let s := { s with routing := { s.routing with input := s.routing.input.erase c.entry } }
      .next (setClassification none (releaseSlot c.entry s))
    else .next s

/-! ## Commands (R69-R73, R153, R154) -/

/-- RULE_WRITE (R69). -/
def execRuleWrite (i : RuleIndex) (rule : Rule) (s : State) : Result :=
  takeCommand (.ruleWrite i rule)
    (fun s => completePlain .ok (modStaging (fun b => { b with rules := update b.rules i fun _ => rule }) s)) s

/-- RULE_COUNT (R70): the count held before is reported. -/
def execRuleCount (count : Nat) (s : State) : Result :=
  takeCommand (.ruleCount count)
    (fun s =>
      complete .ok (packWord [(0, s.routing.stagingBank.count)]) 0#64 (modStaging (fun b => { b with count := count }) s)) s

/-- RULE_COPY (R71): the count copied is reported. -/
def execRuleCopy (s : State) : Result :=
  takeCommand .ruleCopy
    (fun s =>
      complete .ok (packWord [(0, s.routing.activeBank.count)]) 0#64 (modStaging (fun _ => s.routing.activeBank) s)) s

/-- Result word 0 of TABLE_SWAP and RULE_READ: a bank's letter and count (section 12.6). -/
def bankWord (letter : BankId) (bank : Bank) : BitVec 64 := packWord [(0, letter.code), (16, bank.count)]

/-- TABLE_SWAP (R72): the banks change roles; the newly active bank and its count are reported. -/
def execTableSwap (s : State) : Result :=
  takeCommand .tableSwap
    (fun s =>
      let s := { s with routing := { s.routing with active := s.routing.active.other } }
      complete .ok (bankWord s.routing.active s.routing.activeBank) 0#64 s) s

/-- The bank a choice names at this moment (R73). -/
def Routing.choose (r : Routing) : BankChoice → BankId
  | .active => r.active
  | .staging => r.active.other

/-- RULE_READ (R73): a snapshot of the rule, the bank's letter and its count; the write of the rule image starts. -/
def execRuleRead (bank : BankChoice) (i : RuleIndex) (address : HostAddress) (s : State) : Result :=
  takeCommand (.ruleRead bank i address)
    (fun s =>
      let letter := s.routing.choose bank
      let chosen := s.routing.bank letter
      startAccess (.ruleImageWrite (ruleImage chosen.rules[i.val]) (bankWord letter chosen)) s) s

/-- RULE_READ_WRITE_END (R73, R154): OK or HOST_FAULT, with the letter and count of the snapshot under both. -/
def execRuleReadWriteEnd (result : AccessEnd) (s : State) : Result :=
  match s.unit.execution.bind (·.access) with
  | some (.ruleImageWrite _ word0) =>
    .next (endCommandAccess (complete (if result = .done then .ok else .hostFault) word0 0#64) s)
  | _ => .next s

end Sys2Proof.Machine
end

