-- ==== Sys2Proof/Machine/StoreRequests.lean ====
section
/-! DEFINITION. Requests to the frame store and appends to the input list (R16, R42, R43, R46, R53). -/

namespace Sys2Proof.Machine

/-- RECEPTION_SLOT_REQUEST (R16, R42), for the oldest frame of the link not yet placed: with the free count above the host
reserve a slot is granted and filled, otherwise the frame is dropped and counted in drop_no_slot. -/
def execReceptionSlotRequest (l : LinkId) (s : State) : Result :=
  match (s.link l).toStore with
  | [] => .next s
  | frame :: rest =>
    let s := s.modLink l fun k => { k with toStore := rest }
    if s.store.reserve < s.store.freeCount then
      match s.lowestFree with
      | some i =>
        let s := fillSlot i frame (grantSlot i s)
        .next (s.modLink l fun k => { k with toInput := k.toInput ++ [i] })
      | none => .next s
    else .next (count l (fun c => { c with dropNoSlot := c.dropNoSlot + 1#32 }) s)

/-- INPUT_LIST_APPEND (R16, R53), for the oldest slot of the link not yet appended: accepted below 16 entries, otherwise the slot is
released and the drop counted in drop_input_full. -/
def execInputListAppend (l : LinkId) (s : State) : Result :=
  match (s.link l).toInput with
  | [] => .next s
  | i :: rest =>
    let s := s.modLink l fun k => { k with toInput := rest }
    if s.routing.input.length < Config.inputCapacity then
      .next { s with routing := { s.routing with input := s.routing.input ++ [i] } }
    else .next (countDropInputFull l (releaseSlot i s))

/-- SEND_FETCH_SLOT_REQUEST (R43): a FREE slot is granted whatever the reserve; with none the fetcher joins the wait list. It arises
while the fetch is at its slot claim and its request has not been taken. -/
def execSendFetchSlotRequest (l : LinkId) (s : State) : Result :=
  if (s.fetcher l).stage = .slot ∧ l ∉ s.store.waiters then
    match s.lowestFree with
    | some i => .next (grantToFetcher l i (grantSlot i s))
    | none => .next { s with store := { s.store with waiters := s.store.waiters ++ [l] } }
  else .next s

/-- STORE_RESERVE (R46, R147): the reserve before and the free count are reported, and the reserve is set. -/
def execStoreReserve (reserve : Nat) (s : State) : Result :=
  takeCommand (.storeReserve reserve)
    (fun s =>
      let word := packWord [(0, s.store.reserve), (16, s.store.freeCount)]
      complete .ok word 0#64 { s with store := { s.store with reserve := reserve } })
    s

end Sys2Proof.Machine
end

