-- ==== Sys2Proof/Machine/TwinFilter.lean ====
section
/-! DEFINITION. The twin filter (chapter 5): the check, expiry, and its two commands. -/

namespace Sys2Proof.Machine

/-- The entry is the one with this group, key and sequence (R76). -/
def TwinEntry.isFor (t : TwinEntry) (g : GroupId) (key : Key) (seq : Seq) : Bool := t.group = g && t.key = key && t.seq = seq

/-- The entry of this group, key and sequence, if the table holds one (R76). -/
def Twin.lookup (t : Twin) (g : GroupId) (key : Key) (seq : Seq) : Option TwinEntry := t.table.find? fun x => x.isFor g key seq

/-- The twin table changed. -/
def modTable (f : List TwinEntry → List TwinEntry) (s : State) : State := { s with twin := { s.twin with table := f s.twin.table } }

/-- The group's passed counter rises (R81). -/
def countPassed (g : GroupId) (s : State) : State :=
  s.modGroup g fun x => { x with passed := saturatingSucc Config.counterLimit x.passed }
/-- The group's suppressed counter rises (R81). -/
def countSuppressed (g : GroupId) (s : State) : State :=
  s.modGroup g fun x => { x with suppressed := saturatingSucc Config.counterLimit x.suppressed }
/-- The group's evicted counter rises (R81). -/
def countEvicted (g : GroupId) (s : State) : State :=
  s.modGroup g fun x => { x with evicted := saturatingSucc Config.counterLimit x.evicted }

/-- The answers of the filter (R77). -/
inductive TwinAnswer where
  | pass | twin
  deriving DecidableEq, Repr

/-- With 64 entries in the table the oldest is evicted and counted against its own group (R79). -/
def evictIfFull (s : State) : State :=
  match s.twin.table with
  | [] => s
  | oldest :: rest =>
    if Config.twinCapacity ≤ (oldest :: rest).length then countEvicted oldest.group (modTable (fun _ => rest) s) else s

/-- A first copy: a new entry joins at the newest end (R79). -/
def insertTwin (g : GroupId) (f : Frame) (s : State) : State :=
  let t : TwinEntry :=
    { group := g, key := f.key, seq := f.seq, first := f.ingress, expiry := timeAfter f.arrival (s.group g).window }
  countPassed g (modTable (fun xs => xs ++ [t]) (evictIfFull s))

/-- A repeat on the same link: the entry gets a new expiry and moves to the newest end (R78). -/
def refreshTwin (g : GroupId) (f : Frame) (t : TwinEntry) (s : State) : State :=
  let t' := { t with expiry := timeAfter f.arrival (s.group g).window }
  countPassed g (modTable (fun xs => xs.erase t ++ [t']) s)

/-- A twin: the entry it matched is removed (R78). -/
def suppressTwin (g : GroupId) (t : TwinEntry) (s : State) : State := countSuppressed g (modTable (fun xs => xs.erase t) s)

/-- The check of a frame under a group: the answer and what it leaves (R77-R79). -/
def checkTwin (g : GroupId) (f : Frame) (s : State) : TwinAnswer × State :=
  if (s.group g).links.getLsbD f.ingress.val then
    match s.twin.lookup g f.key f.seq with
    | none => (.pass, insertTwin g f s)
    | some t => if t.first = f.ingress then (.pass, refreshTwin g f t s) else (.twin, suppressTwin g t s)
  else (.pass, s)

/-- The routing engine acts on the answer: dispatch, or the frame is dropped whole (R63). -/
def answerTwin (c : Classification) (answer : TwinAnswer) (s : State) : State :=
  match answer with
  | .pass => setClassification (some c.dispatched) s
  | .twin => setClassification (some c.dropped) s

/-- TWIN_CHECK (R63, R77): the request of a classification in TWIN_WAIT is taken. -/
def execTwinCheck (s : State) : Result :=
  match s.routing.classification with
  | none => .next s
  | some c =>
    match c.stage, c.twinGroup with
    | .twinWait, some g =>
      let r := checkTwin g (s.slot c.entry).frame s
      .next (answerTwin c r.1 r.2)
    | _, _ => .next s

/-- TWIN_EXPIRY (R80): device time has reached the entry's expiry time; it leaves the table. -/
def execTwinExpiry (g : GroupId) (key : Key) (seq : Seq) (s : State) : Result :=
  match s.twin.lookup g key seq with
  | some t => if reached s.time t.expiry then .next (modTable (fun xs => xs.erase t) s) else .next s
  | none => .next s

/-- The number of table entries of a group (R82). -/
def Twin.entriesOf (t : Twin) (g : GroupId) : Nat := t.table.countP fun x => x.group = g

/-- Every entry of the group leaves the table; the order of the others stays (R82, R83). -/
def removeGroupEntries (g : GroupId) (s : State) : State := modTable (fun xs => xs.filter fun x => x.group ≠ g) s

/-- Result word 0 of TWIN_GROUP (R82, section 12.6). -/
def twinGroupWord (x : TwinGroup) (entries : Nat) : BitVec 64 :=
  packWord [(0, x.passed), (16, x.suppressed), (32, x.evicted), (48, entries)]

/-- What TWIN_GROUP does with a link set and window after its snapshot: the counters are cleared, and unless the configuration is
identical the group's entries go and the new configuration is taken, an empty set with window 0 (R82). -/
def configureTwinGroup (g : GroupId) (links : LinkSet) (window : Nat) (s : State) : State :=
  let window := if links = 0#4 then 0 else window
  let same := (s.group g).links = links ∧ (s.group g).window = window
  let s := if same then s else removeGroupEntries g s
  s.modGroup g fun _ => { links := links, window := window, passed := 0, suppressed := 0, evicted := 0 }

/-- TWIN_GROUP (R82). -/
def execTwinGroup (g : GroupId) (links : LinkSet) (window : Nat) (s : State) : Result :=
  takeCommand (.twinGroup g links window)
    (fun s => complete .ok (twinGroupWord (s.group g) (s.twin.entriesOf g)) 0#64 (configureTwinGroup g links window s)) s

/-- TWIN_FLUSH (R83): the number of entries removed is reported. -/
def execTwinFlush (g : GroupId) (s : State) : Result :=
  takeCommand (.twinFlush g)
    (fun s => complete .ok (packWord [(0, s.twin.entriesOf g)]) 0#64 (removeGroupEntries g s)) s

end Sys2Proof.Machine
end

