-- ==== Sys2Proof/Machine/Dispatch.lean ====
section
/-! DEFINITION. One arm per row of spec/opcode_table.json: the meaning of each happening. -/

namespace Sys2Proof.Machine

/-- What a happening does to everything but the queue of happenings. -/
def exec (i : Instr) (s : State) : Host.Outcome State Fault Refusal :=
  match i with
  | .powerOnReset => Sys2Proof.Machine.execPowerOnReset s
  | .reset enables => Sys2Proof.Machine.execReset enables s
  | .start enables => Sys2Proof.Machine.execStart enables s
  | .detach enables => Sys2Proof.Machine.execDetach enables s
  | .controlEnablesWrite enables actions => Sys2Proof.Machine.execControlEnablesWrite enables actions s
  | .cbaWrite half value => Sys2Proof.Machine.execCbaWrite half value s
  | .kick value => Sys2Proof.Machine.execKick value s
  | .irqClear value => Sys2Proof.Machine.execIrqClear value s
  | .registerWrite reg value => Sys2Proof.Machine.execRegisterWrite reg value s
  | .attachReadEnd result => Sys2Proof.Machine.execAttachReadEnd result s
  | .hostAccessEnd access => Sys2Proof.Machine.execHostAccessEnd access s
  | .quietInterval l => Sys2Proof.Machine.execQuietInterval l s
  | .stuckEpisodeStart l => Sys2Proof.Machine.execStuckEpisodeStart l s
  | .stuckEpisodeEnd l => Sys2Proof.Machine.execStuckEpisodeEnd l s
  | .receptionEnd l line => Sys2Proof.Machine.execReceptionEnd l line s
  | .contentionOpportunity l => Sys2Proof.Machine.execContentionOpportunity l s
  | .contentionLost l line => Sys2Proof.Machine.execContentionLost l line s
  | .attemptEnd l line => Sys2Proof.Machine.execAttemptEnd l line s
  | .receptionSlotRequest l => Sys2Proof.Machine.execReceptionSlotRequest l s
  | .inputListAppend l => Sys2Proof.Machine.execInputListAppend l s
  | .sendFetchSlotRequest l => Sys2Proof.Machine.execSendFetchSlotRequest l s
  | .classification => Sys2Proof.Machine.execClassification s
  | .classificationEnd => Sys2Proof.Machine.execClassificationEnd s
  | .twinCheck => Sys2Proof.Machine.execTwinCheck s
  | .twinExpiry g key seq => Sys2Proof.Machine.execTwinExpiry g key seq s
  | .mailboxStore m => Sys2Proof.Machine.execMailboxStore m s
  | .forwardAdmission l => Sys2Proof.Machine.execForwardAdmission l s
  | .hostAdmission l => Sys2Proof.Machine.execHostAdmission l s
  | .emissionRequest e => Sys2Proof.Machine.execEmissionRequest e s
  | .placeRequest l => Sys2Proof.Machine.execPlaceRequest l s
  | .deadlineExpiry l admission => Sys2Proof.Machine.execDeadlineExpiry l admission s
  | .emission e => Sys2Proof.Machine.execEmission e s
  | .emissionAnswer e => Sys2Proof.Machine.execEmissionAnswer e s
  | .copyEnd e => Sys2Proof.Machine.execCopyEnd e s
  | .creditRequest r => Sys2Proof.Machine.execCreditRequest r s
  | .indexReadEnd q word => Sys2Proof.Machine.execIndexReadEnd q word s
  | .commandTaken record => Sys2Proof.Machine.execCommandTaken record s
  | .cqDeviceWordWriteEnd => Sys2Proof.Machine.execCqDeviceWordWriteEnd s
  | .sendRecordTaken l record => Sys2Proof.Machine.execSendRecordTaken l record s
  | .sqDeviceWordWriteEnd l => Sys2Proof.Machine.execSqDeviceWordWriteEnd l s
  | .backlogAppend d => Sys2Proof.Machine.execBacklogAppend d s
  | .deliveryWriteStart d => Sys2Proof.Machine.execDeliveryWriteStart d s
  | .deliveryRecordWriteEnd d => Sys2Proof.Machine.execDeliveryRecordWriteEnd d s
  | .dqDeviceWordWriteEnd d => Sys2Proof.Machine.execDqDeviceWordWriteEnd d s
  | .statusWriteStart => Sys2Proof.Machine.execStatusWriteStart s
  | .statusRecordWriteEnd => Sys2Proof.Machine.execStatusRecordWriteEnd s
  | .stqDeviceWordWriteEnd => Sys2Proof.Machine.execStqDeviceWordWriteEnd s
  | .noticePost source => Sys2Proof.Machine.execNoticePost source s
  | .holdoffExpiry q => Sys2Proof.Machine.execHoldoffExpiry q s
  | .hostMemoryFault access => Sys2Proof.Machine.execHostMemoryFault access s
  | .nop tag => Sys2Proof.Machine.execNop tag s
  | .queueEnable q => Sys2Proof.Machine.execQueueEnable q s
  | .queueEnableDescriptorReadEnd result => Sys2Proof.Machine.execQueueEnableDescriptorReadEnd result s
  | .queueDisable q => Sys2Proof.Machine.execQueueDisable q s
  | .queueStatus q => Sys2Proof.Machine.execQueueStatus q s
  | .storeReserve reserve => Sys2Proof.Machine.execStoreReserve reserve s
  | .linkConfig l cfg => Sys2Proof.Machine.execLinkConfig l cfg s
  | .linkMode l mode => Sys2Proof.Machine.execLinkMode l mode s
  | .linkRecover l => Sys2Proof.Machine.execLinkRecover l s
  | .linkForce l => Sys2Proof.Machine.execLinkForce l s
  | .linkStatus l address clear => Sys2Proof.Machine.execLinkStatus l address clear s
  | .linkStatusWriteEnd result => Sys2Proof.Machine.execLinkStatusWriteEnd result s
  | .sendCancel l tag => Sys2Proof.Machine.execSendCancel l tag s
  | .egressFlush l => Sys2Proof.Machine.execEgressFlush l s
  | .ruleWrite index rule => Sys2Proof.Machine.execRuleWrite index rule s
  | .ruleCount count => Sys2Proof.Machine.execRuleCount count s
  | .ruleCopy => Sys2Proof.Machine.execRuleCopy s
  | .tableSwap => Sys2Proof.Machine.execTableSwap s
  | .ruleRead bank index address => Sys2Proof.Machine.execRuleRead bank index address s
  | .ruleReadWriteEnd result => Sys2Proof.Machine.execRuleReadWriteEnd result s
  | .twinGroup g links window => Sys2Proof.Machine.execTwinGroup g links window s
  | .twinFlush g => Sys2Proof.Machine.execTwinFlush g s
  | .mailboxConfig m notify => Sys2Proof.Machine.execMailboxConfig m notify s
  | .mailboxRead m address => Sys2Proof.Machine.execMailboxRead m address s
  | .mailboxReadWriteEnd result => Sys2Proof.Machine.execMailboxReadWriteEnd result s
  | .mailboxClear m => Sys2Proof.Machine.execMailboxClear m s
  | .cyclicSet e args => Sys2Proof.Machine.execCyclicSet e args s
  | .cyclicSetReadEnd payload => Sys2Proof.Machine.execCyclicSetReadEnd payload s
  | .cyclicStart e => Sys2Proof.Machine.execCyclicStart e s
  | .cyclicStop e => Sys2Proof.Machine.execCyclicStop e s
  | .cyclicUpdate e length address => Sys2Proof.Machine.execCyclicUpdate e length address s
  | .cyclicUpdateApply payload => Sys2Proof.Machine.execCyclicUpdateApply payload s
  | .cyclicClear e => Sys2Proof.Machine.execCyclicClear e s
  | .cyclicRead e address clear => Sys2Proof.Machine.execCyclicRead e address clear s
  | .cyclicReadWriteEnd result => Sys2Proof.Machine.execCyclicReadWriteEnd result s
  | .receptionBegin l => Sys2Proof.Machine.execReceptionBegin l s

end Sys2Proof.Machine
end

