-- ==== Sys2Proof/Machine/Step.lean ====
section
/-! DEFINITION. The step: the happening at the front of the queue is taken; with none waiting, device time passes. -/

namespace Sys2Proof.Machine

/-- One microsecond passes: 40 periods of the reference clock (R164; log 2). -/
def tick (s : State) : State := { s with time := s.time + 1#32 }

/-- One step: the happening at the front of the queue is taken whole, on the state with the rest of the queue; on an empty queue
a microsecond passes (section 1.8, R164; logs 2 and 3). -/
def step (s : State) : Host.Outcome State Fault Refusal :=
  match s.pending with
  | [] => .next (tick s)
  | c :: rest => exec c { s with pending := rest }

/-- The happening a table word spells, put at the front of the queue; the state as it is where the word spells none. -/
def State.withFetchWord (s : State) (nbits w : Nat) : State :=
  match decodeTableWord nbits w with
  | some c => { s with pending := c :: s.pending }
  | none => s

end Sys2Proof.Machine
end

