-- ==== Sys2Proof/Machine/HostPort.lean ====
section
/-! DEFINITION. What the block shows at its host port (R127, R128, R166; log 11): the reads and writes of host memory that are under
way, with their addresses, and the bytes of the writes. They are functions of the state; the block holds no host memory. -/

namespace Sys2Proof.Machine

/-- A read of host memory under way: its address and length in bytes. -/
structure HostRead where
  access : HostAccess
  address : HostAddress
  length : Nat
  deriving DecidableEq, Repr

/-- A write of host memory under way: its address and bytes, and, where the manual orders them, the offset of the byte that is written
no earlier than any other (R167). -/
structure HostWrite where
  access : HostAccess
  address : HostAddress
  bytes : List Byte
  last : Option Nat := none
  deriving DecidableEq, Repr

/-- An address at a distance from another; a sum past 2^64 wraps (log 42). -/
def offsetAddress (base : HostAddress) (bytes : Nat) : HostAddress := base + BitVec.ofNat 64 bytes

/-- The address of a queue's host word (section 12.1). -/
def hostWordAddress (q : QueueId) (s : State) : HostAddress := offsetAddress (controlBlockAddress s.host) (288 + 8 * q.val)

/-- The address of a queue's device word (section 12.1). -/
def deviceWordAddress (q : QueueId) (s : State) : HostAddress := offsetAddress (controlBlockAddress s.host) (292 + 8 * q.val)

/-- The address of a queue's descriptor (section 12.1). -/
def descriptorAddress (q : QueueId) (s : State) : HostAddress := offsetAddress (controlBlockAddress s.host) (64 + 16 * q.val)

/-- The record size of a queue's ring in bytes: command 64, send and delivery 96, status 32 (chapter 12). -/
def recordSize (q : QueueId) : Nat :=
  match queueKind q with
  | .command => 64
  | .send _ => 96
  | .delivery _ => 96
  | .status => 32

/-- The address of the ring entry at a queue's device index (R128). -/
def ringEntryAddress (q : QueueId) (s : State) : HostAddress :=
  offsetAddress (s.queue q).desc.base (recordSize q * (s.queue q).device)

/-- The host address a command names (section 12.5). -/
def commandAddress : Command → HostAddress
  | .linkStatus _ a _ => a
  | .ruleRead _ _ a => a
  | .mailboxRead _ a => a
  | .cyclicSet _ args => args.address
  | .cyclicUpdate _ _ a => a
  | .cyclicRead _ a _ => a
  | _ => 0#64

/-- The write of a device word (section 12.1). -/
def deviceWordWrite (a : HostAccess) (q : QueueId) (s : State) : HostWrite :=
  { access := a, address := deviceWordAddress q s, bytes := leBytes 4 (s.queue q).device }

/-- The own write of the command in execution, if it is making one (R36, R73, R88, R125). -/
def commandWrite (s : State) : List HostWrite :=
  match s.unit.execution with
  | some { tag := _, command := c, access := some a } =>
    let address := commandAddress c
    (match a with
    | .linkStatusWrite block => [{ access := .commandBuffer, address := address, bytes := block }]
    | .ruleImageWrite image _ => [{ access := .commandBuffer, address := address, bytes := image }]
    | .cyclicStatusWrite block => [{ access := .commandBuffer, address := address, bytes := block }]
    | .frameImageWrite =>
      (s.mailboxRead.map fun r =>
        { access := .commandBuffer, address := r.address, bytes := frameImage (s.slot r.slot).frame r : HostWrite }).toList
    | .descriptorRead => []
    | .payloadRead _ => []
    | .bufferRead => [])
  | _ => []

/-- The writes of host memory under way (R132-R136), without those that State.discarded lists. The byte of a status record that holds its
kind and lap bit is written no earlier than the rest (R167). -/
def hostWrites (s : State) : List HostWrite :=
  (if s.unit.wordWrite then [deviceWordWrite .cqDeviceWord cq s] else [])
    ++ (allLinks.filter fun l => (s.fetcher l).stage == .index).map (fun l => deviceWordWrite (.sqDeviceWord l) (sq l) s)
    ++ allDeliveries.flatMap (fun d =>
      match (s.writer d).stage, (s.writer d).backlog with
      | .record, b :: _ =>
        [{ access := .deliveryRecord d, address := ringEntryAddress (dq d) s, bytes := deliveryRecord (s.slot b.slot).frame b }]
      | .index, _ => [deviceWordWrite (.dqDeviceWord d) (dq d) s]
      | _, _ => [])
    ++ (match s.status.stage, s.status.current with
      | .record, some item =>
        [{ access := .statusRecord, address := ringEntryAddress stq s, bytes := statusRecord s.status.lap item, last := some 0 }]
      | .index, _ => [deviceWordWrite .stqDeviceWord stq s]
      | _, _ => [])
    ++ commandWrite s

/-- The own read of the command in execution, if it is making one (R118, R123, R140). -/
def commandRead (s : State) : List HostRead :=
  match s.unit.execution with
  | some { tag := _, command := .queueEnable q, access := some .descriptorRead } =>
    [{ access := .commandBuffer, address := descriptorAddress q s, length := 16 }]
  | some { tag := _, command := .cyclicSet _ args, access := some (.payloadRead _) } =>
    [{ access := .commandBuffer, address := args.address, length := args.length }]
  | some { tag := _, command := .cyclicUpdate _ length address, access := some .bufferRead } =>
    [{ access := .commandBuffer, address := address, length := length }]
  | _ => []

/-- The reads of host memory under way (R130, R132, R133, R141), without those that State.discarded lists. -/
def hostReads (s : State) : List HostRead :=
  (if s.host.state = .attaching then
    [{ access := .controlBlock, address := controlBlockAddress s.host, length := 64 },
     { access := .controlBlock, address := descriptorAddress cq s, length := 16 },
     { access := .controlBlock, address := descriptorAddress stq s, length := 16 }]
   else [])
    ++ (allQueues.filter fun q => (s.queue q).reading).map
      (fun q => { access := .indexRead q, address := hostWordAddress q s, length := 4 })
    ++ (if s.unit.stage = .reading then
      [{ access := .commandRecord, address := ringEntryAddress cq s, length := recordSize cq }] else [])
    ++ (allLinks.filter fun l => (s.fetcher l).stage == .reading).map
      (fun l => { access := .sendRecord l, address := ringEntryAddress (sq l) s, length := recordSize (sq l) })
    ++ commandRead s

end Sys2Proof.Machine
end

