-- ==== Sys2Proof/Safety.lean ====
section
/-! DEFINITION. What a sound state of the device is: the capacities the manual gives, the laws its rules say always hold, and the
bookkeeping between blocks on which those laws rest; and what taking a command, an error on a line and the like mean. Claims are stated in
these terms. -/

namespace Sys2Proof.Machine

/-! ## Capacities (R46, R53, R97, R131, R134, R137) -/

/-- No collection holds more than its rule allows: 16 frames in the input list (R53), 48 places in each egress set (R97), 8 entries in
each backlog (R134), 16 notices and a lost count of 65535 (R137). -/
def WithinCapacity (s : State) : Prop :=
  s.routing.input.length ≤ 16
    ∧ (∀ l : LinkId, (s.set l).occupancy ≤ 48)
    ∧ (∀ d : DeliveryId, (s.writer d).backlog.length ≤ 8)
    ∧ s.notices.length ≤ 16
    ∧ s.lost ≤ 65535

/-! ## Egress sets (R96, R100) -/

/-- The pending entries stand in the order of R96, no entry before one of lower key, or of equal key and lower admission number; and a set
holds at most one copy of each schedule entry, pending or in flight (R100). -/
def EgressSound (x : EgressSet) : Prop :=
  x.pending.Pairwise (fun a b => ¬(b.key < a.key ∨ (b.key = a.key ∧ b.admission < a.admission)))
    ∧ ∀ e : ScheduleId, (x.inFlight.toList ++ x.pending).countP (fun y => y.origin = .cyclic e) ≤ 1

/-- All four egress sets. -/
def EgressSetsSound (s : State) : Prop := ∀ l : LinkId, EgressSound (s.set l)

/-! ## Links (R17, R21, R23, R24, R27, R101) -/

/-- The link-level laws of one link controller: the score is within 0-255 and health is its band (R17, R24); probation runs only in
ISOLATED with a count below 64 (R17, R27, R28); the deferral flag is set only in ONLINE with health MUTED (R12). -/
def LinkSound (k : Link) : Prop :=
  k.score ≤ 255 ∧ k.health = healthOf k.score
    ∧ (∀ n, k.probation = some n → k.mode = .isolated ∧ n < 64)
    ∧ (k.deferral = true → k.mode = .online ∧ k.health = .muted)

/-- A link in OFFLINE holds no bus-level state and no egress entry (R13, R21, R101). -/
def OfflineAtRest (k : Link) (x : EgressSet) : Prop :=
  k.mode = .offline →
    k.reception = none ∧ k.recessiveRun = 0 ∧ k.dominantRun = 0 ∧ k.stuck = false ∧ k.following = false
      ∧ x.pending = [] ∧ x.inFlight = none

/-- The laws of all four links. -/
def LinksSound (s : State) : Prop := ∀ l : LinkId, LinkSound (s.link l) ∧ OfflineAtRest (s.link l) (s.set l)

/-! ## The twin table (R75, R76) -/

/-- Two entries have the same group, key and sequence (R76). -/
def TwinEntry.sameFrame (a b : TwinEntry) : Prop := a.group = b.group ∧ a.key = b.key ∧ a.seq = b.seq

/-- The table holds at most 64 entries, no two with the same group, key and sequence (R76), and the groups' counters are within
0-65535 (R75). -/
def TwinSound (s : State) : Prop :=
  s.twin.table.length ≤ 64
    ∧ s.twin.table.Pairwise (fun a b => ¬a.sameFrame b)
    ∧ ∀ g : GroupId, (s.group g).passed ≤ 65535 ∧ (s.group g).suppressed ≤ 65535 ∧ (s.group g).evicted ≤ 65535

/-! ## Mailboxes (R85) -/

/-- Fresh and the overwrite count are clear and 0 in an empty mailbox, and the count is within 0-255 (R85). -/
def MailboxSound (x : Mailbox) : Prop :=
  (x.content = none → x.fresh = false ∧ x.overwrites = 0) ∧ (x.fresh = false → x.overwrites = 0) ∧ x.overwrites ≤ 255

/-! ## Schedule entries (R117) -/

/-- A template is present exactly outside EMPTY, and a next due time exactly in ARMED (R117). -/
def ScheduleSound (x : ScheduleEntry) : Prop :=
  (x.template.isSome = true ↔ x.state ≠ .empty) ∧ (x.nextDue.isSome = true ↔ x.state = .armed)

/-- The laws of all 32 entries; and the entry whose CYCLIC_SET is reading its payload is not ARMED (R118). -/
def SchedulesSound (s : State) : Prop :=
  (∀ e : ScheduleId, ScheduleSound (s.entry e))
    ∧ ∀ x e args, s.unit.execution = some x → x.command = .cyclicSet e args → x.access ≠ none → (s.entry e).state ≠ .armed

/-! ## References (R38) -/

/-- All 128 mailboxes. -/
def allMailboxes : List MailboxId := List.finRange 128
/-- All 32 schedule entries. -/
def allSchedule : List ScheduleId := List.finRange 32

/-- The slots held on behalf of one link: receptions on their way to the input list, egress entries, and the send fetch with the
record it has handed on (R38). -/
def linkHolders (s : State) (l : LinkId) : List SlotId :=
  (s.link l).toInput ++ (s.set l).pending.map (·.slot) ++ (s.set l).inFlight.toList.map (·.slot)
    ++ (s.fetcher l).slot.toList ++ (s.fetcher l).admission.toList.map (·.slot)

/-- The slots held by one schedule entry: its template and its requests not yet taken (R38). -/
def scheduleHolders (x : ScheduleEntry) : List SlotId := x.template.toList ++ x.requests.map (·.slot)

/-- The slot a command payload read in progress holds (R38). -/
def commandHolders (u : CommandUnit) : List SlotId :=
  match u.access with
  | some (.payloadRead i) => [i]
  | _ => []

/-- Every holder of the device as the slot it refers to, one occurrence for each reference (R38). -/
def holders (s : State) : List SlotId :=
  allLinks.flatMap (linkHolders s)
    ++ s.routing.input
    ++ allDeliveries.flatMap (fun d => (s.writer d).backlog.map (·.slot))
    ++ s.discarded.filterMap (·.slot)
    ++ allMailboxes.filterMap (fun m => (s.mailbox m).content.map (·.slot))
    ++ s.mailboxRead.toList.map (·.slot)
    ++ allSchedule.flatMap (fun e => scheduleHolders (s.entry e))
    ++ commandHolders s.unit

/-- The law of R38: a slot's reference count equals the number of holders that refer to it. -/
def ReferencesCounted (s : State) : Prop := ∀ i : SlotId, (s.slot i).count = (holders s).count i

/-! ## Bookkeeping between the blocks -/

/-- The claims of one send fetcher agree with the lists it stands in (R43, R97, R131, R133): it waits for a credit only in CREDIT, for a
slot only in SLOT and for a place only in PLACE, with no record handed on before it; it holds a slot only in PLACE and READING, and a
place exactly in READING and for a record handed on and not yet taken. -/
def FetcherConsistent (s : State) (l : LinkId) : Prop :=
  let f := s.fetcher l
  let x := s.set l
  (Requester.fetcher l ∈ s.status.waiters → f.stage = .credit)
    ∧ (l ∈ s.store.waiters → f.stage = .slot)
    ∧ (x.waiting = true → f.stage = .place ∧ f.admission = none ∧ x.reserved = false)
    ∧ (f.stage = .reading → x.reserved = true ∧ f.admission = none)
    ∧ (f.admission.isSome = true → x.reserved = true)
    ∧ (x.reserved = true → f.stage = .reading ∨ f.admission.isSome = true)
    ∧ (f.slot.isSome = true ↔ f.stage = .place ∨ f.stage = .reading)

/-- The command unit's stage agrees with what it holds (R85, R132, R142, R145): a command in execution exactly in EXECUTING, with its
arguments in range, a credit wait only in CREDIT, a finished command only while its device word is being written, a fetch only while
ATTACHED, a mailbox read exactly during its write, and nothing in execution while the device is DETACHED or ATTACHING. -/
def UnitConsistent (s : State) : Prop :=
  (s.unit.execution.isSome = true ↔ s.unit.stage = .executing)
    ∧ (s.unit.stage = .finishing → s.unit.wordWrite = true)
    ∧ (Requester.commandUnit ∈ s.status.waiters → s.unit.stage = .credit)
    ∧ (s.unit.stage = .credit ∨ s.unit.stage = .reading → s.host.state = .attached)
    ∧ (s.mailboxRead.isSome = true ↔ s.unit.access = some .frameImageWrite)
    ∧ (∀ x, s.unit.execution = some x → x.command.wellFormed = true)
    ∧ (s.host.state = .detached ∨ s.host.state = .attaching → s.unit.execution = none)

/-- A write stage agrees with what is written (R134, R136): a delivery writer that is writing has the entry it writes at the head of its
backlog, and the status writer holds a record exactly while it writes one. -/
def WritersConsistent (s : State) : Prop :=
  (∀ d : DeliveryId, (s.writer d).stage ≠ .idle → (s.writer d).backlog ≠ [])
    ∧ (s.status.current.isSome = true ↔ s.status.stage = .record)

/-- The answers handed back to a schedule entry and not yet taken. -/
def ScheduleEntry.answersWaiting (x : ScheduleEntry) : Nat :=
  x.inbox.countP fun m => match m with
    | .answer _ => true
    | .ended _ => false

/-- The bookkeeping on which the law of R38 rests: no requester waits twice (R43, R131), claims agree with waiting lists, the entry under
classification is in the input list (R53), and requests unanswered are those handed or answered and not yet taken (R117). -/
def Consistent (s : State) : Prop :=
  s.status.waiters.Nodup ∧ s.store.waiters.Nodup
    ∧ (∀ l : LinkId, FetcherConsistent s l)
    ∧ UnitConsistent s
    ∧ (∀ c, s.routing.classification = some c → c.entry ∈ s.routing.input)
    ∧ WritersConsistent s
    ∧ (∀ e : ScheduleId, (s.entry e).unanswered = (s.entry e).requests.length + (s.entry e).answersWaiting)

/-- The frame store is sound: the law of R38 holds, with the bookkeeping it rests on. -/
def StoreSound (s : State) : Prop := ReferencesCounted s ∧ Consistent s

/-! ## Queues (R127-R129, R138, R139) -/

/-- A queue context lies within the ranges of R129: a ring size of R127, both indices below it, at most 4095 records counted, and a fault
cause exactly in FAULTED. -/
def QueueSound (x : Queue) : Prop :=
  x.desc.size ∈ [16, 32, 64, 128, 256, 512, 1024, 2048, 4096] ∧ x.known < x.desc.size ∧ x.device < x.desc.size
    ∧ x.counted ≤ 4095 ∧ (x.cause.isSome = true ↔ x.state = .faulted)

/-- All fourteen queue contexts. -/
def QueuesSound (s : State) : Prop := ∀ q : QueueId, QueueSound (s.queue q)

/-- The twin table, the mailboxes, the schedule entries and the queue contexts each lie within what their rule gives. -/
def TablesSound (s : State) : Prop :=
  TwinSound s ∧ (∀ m : MailboxId, MailboxSound (s.mailbox m)) ∧ SchedulesSound s ∧ QueuesSound s

/-! ## Status credits (R131) -/

/-- The reservations held on behalf of one link: its fetch from the grant of the credit until its record is taken, the record handed for
admission, and the live HOST entries of its egress set (R98, R131, R133). -/
def linkReservations (s : State) (l : LinkId) : Nat :=
  let f := s.fetcher l
  (if f.stage = .slot ∨ f.stage = .place ∨ f.stage = .reading then 1 else 0) + f.admission.isSome.toNat
    + ((s.set l).inFlight.toList ++ (s.set l).pending).countP fun e => e.isHost && !e.orphaned

/-- The reservation of the command unit, from its grant to its result (R131, R132). -/
def unitReservations (u : CommandUnit) : Nat := if u.stage = .reading ∨ u.stage = .executing then 1 else 0

/-- The reservation of the completion being written, until its record is written (R131, R136; log 14). -/
def currentReservation (w : StatusWriter) : Nat :=
  match w.current with
  | some (.completion _) => 1
  | some (.notice _) => 0
  | none => 0

/-- All reservations the device holds (R131). -/
def reservations (s : State) : Nat :=
  (allLinks.map (linkReservations s)).sum + unitReservations s.unit + s.status.completions.length + currentReservation s.status

/-- The law of R131: while the device is ATTACHED the reserved count is the number of reservations held, and the entries reserved, the
entry a notice is being written to and the entries written and not yet consumed never exceed the STQ size minus one. While the device is
neither ATTACHED nor FAULTED no one waits for a credit, and no link and no completion holds a reservation. -/
def CreditSound (s : State) : Prop :=
  (s.host.state = .attached →
      s.status.reserved = reservations s
        ∧ s.status.reserved + s.status.noticeUnit + (s.queue stq).written ≤ (s.queue stq).desc.size - 1)
    ∧ (s.host.state ≠ .attached → s.host.state ≠ .faulted →
        s.status.waiters = [] ∧ (∀ l : LinkId, linkReservations s l = 0) ∧ s.status.completions = [] ∧ s.status.current = none)

/-! ## Commands: taken and completed (R132, section 12.4) -/

/-- The command unit holds this command for its owner under this tag: it has been handed on, and its own host access has not begun
(R132). -/
def Handed (tag : BitVec 32) (c : Command) (s : State) : Prop :=
  s.unit.execution = some { tag := tag, command := c, access := none }

/-- The command in execution is this one under this tag, and its own host access is under way (R132). -/
def Accessing (tag : BitVec 32) (c : Command) (a : CommandAccess) (s : State) : Prop :=
  s.unit.execution = some { tag := tag, command := c, access := some a }

/-- The state with the command in execution completed: its COMMAND_DONE joins the completion FIFO while the device is ATTACHED and is
discarded otherwise (R132, R136, R142, R143), the command unit leaves EXECUTING, for IDLE unless its device word is still being written
(R132), and a DETACHING device with nothing else outstanding is DETACHED (R142). -/
def commandDone (tag : BitVec 32) (c : Command) (result : ResultCode) (word0 word1 : BitVec 64) (s : State) : State :=
  { s with
    unit := { s.unit with stage := if s.unit.wordWrite = true then .finishing else .idle, execution := none }
    status := if s.host.state = .attached then
        { s.status with
          completions := s.status.completions ++ [.commandDone result (commandCode c) tag word0 word1 s.time] }
      else s.status
    host := if s.host.state = .detaching ∧ s.discarded = [] then { s.host with state := .detached } else s.host }

/-- The state with the own host access of the command in execution under way; the command unit stays in EXECUTING (R132). -/
def commandAccessing (tag : BitVec 32) (c : Command) (a : CommandAccess) (s : State) : State :=
  { s with unit := { s.unit with execution := some { tag := tag, command := c, access := some a } } }

/-! ## Accesses whose effect is discarded (R130, R134, R139, R140, R142) -/

/-- The queue whose ring or index words an access touches; none for the control block and a command's own buffer. -/
def HostAccess.queue? : HostAccess → Option QueueId
  | .controlBlock => none
  | .indexRead q => some q
  | .commandRecord => some cq
  | .cqDeviceWord => some cq
  | .sendRecord l => some (sq l)
  | .sqDeviceWord l => some (sq l)
  | .deliveryRecord d => some (dq d)
  | .dqDeviceWord d => some (dq d)
  | .statusRecord => some stq
  | .stqDeviceWord => some stq
  | .commandBuffer => none

/-- The slot whose reference an access keeps until it ends: a delivery writer's that of the entry at the head of its backlog (R134). -/
def keptSlot (s : State) : HostAccess → Option SlotId
  | .deliveryRecord d => (s.writer d).backlog.head?.map (·.slot)
  | .dqDeviceWord d => (s.writer d).backlog.head?.map (·.slot)
  | _ => none

/-- This access of a queue is under way in `s` with its effect not discarded, and this is the slot reference it keeps. -/
def Outstanding (s : State) (x : DiscardedAccess) : Prop :=
  s.accessLive x.access = true ∧ (HostAccess.queue? x.access).isSome = true ∧ x.slot = keptSlot s x.access

/-- From `s` to `t`, behind the accesses already discarded, exactly the outstanding ones of these kinds are discarded, each once and with
its slot reference. -/
def NewlyDiscarded (kinds : HostAccess → Prop) (s t : State) : Prop :=
  ∃ more, t.discarded = s.discarded ++ more ∧ more.Nodup ∧ ∀ x, x ∈ more ↔ Outstanding s x ∧ kinds x.access

/-! ## The host side stopped (R142, R143) -/

/-- What detach and entry to FAULTED have in common, from `s` to `t`: no fetch is held and no one waits for a slot, a place or a credit; a
command in execution goes on while the command unit is otherwise at rest; backlogs are empty with their writers IDLE; no index read is
outstanding; no completion waits and the status writer is IDLE; and the accesses of queues that were under way are discarded, a delivery
writer's with the slot reference it keeps. Slot contents, drop state and everything outside the host side are unchanged. -/
structure HostSideStopped (s t : State) : Prop where
  fetchers : ∀ l : LinkId, t.fetcher l = { stage := .none, slot := none, admission := none }
  places : ∀ l : LinkId, (t.set l).reserved = false ∧ (t.set l).waiting = false ∧ (t.set l).counter = (s.set l).counter
  slotWaiters : t.store.waiters = []
  credits : t.status.waiters = [] ∧ t.status.completions = [] ∧ t.status.stage = .idle ∧ t.status.current = none
    ∧ t.status.lap = s.status.lap
  unit : t.unit = { s.unit with wordWrite := false, stage := if s.unit.stage = .executing then .executing else .idle }
  writers : ∀ d : DeliveryId, t.writer d = { s.writer d with backlog := [], stage := .idle }
  reads : ∀ q : QueueId, (t.queue q).reading = false ∧ (t.queue q).reread = false
  discarded : NewlyDiscarded (fun _ => True) s t
  contents : ∀ i : SlotId, (t.slot i).frame = (s.slot i).frame
  reserve : t.store.reserve = s.store.reserve
  rest : t.pending = s.pending ∧ t.time = s.time ∧ t.links = s.links ∧ t.routing = s.routing ∧ t.twin = s.twin
    ∧ t.mailboxes = s.mailboxes ∧ t.mailboxRead = s.mailboxRead ∧ t.schedule = s.schedule

/-! ## Queue faults and the fault of the device (R139, R143) -/

/-- A queue other than STQ has faulted with this cause, from `s`, in which the access that failed has ended, to `t` (R139): its context is
FAULTED with its index read discarded and its coalescing at rest, QUEUE_FAULT is posted, and its work is gone: a fetch that had not taken
its record, with what it held, or a whole backlog. Its accesses under way are discarded, but the device-word write of a record already
taken goes on. Other queues, entries already
admitted, completions and everything outside the host side are unchanged. -/
structure QueueFaulted (q : QueueId) (cause : FaultCause) (s t : State) : Prop where
  queue : t.queue q =
    { s.queue q with
      state := .faulted, cause := some cause, reading := false, reread := false, counted := 0, holdoffEnd := none }
  others : ∀ q' : QueueId, q' ≠ q → t.queue q' = s.queue q'
  notice : t.posted = s.posted ++ [{ body := .queueFault q cause, time := s.time }]
  fetcher : ∀ l : LinkId, q = sq l →
    t.fetcher l = { s.fetcher l with stage := if (s.fetcher l).stage = .index then .index else .none, slot := none }
  place : ∀ l : LinkId, q = sq l → (t.set l).waiting = false ∧ (t.set l).reserved = (s.fetcher l).admission.isSome
  backlog : ∀ d : DeliveryId, q = dq d → t.writer d = { s.writer d with backlog := [], stage := .idle }
  command : q = cq →
    t.unit = { s.unit with stage := if s.unit.stage = .credit ∨ s.unit.stage = .reading then .idle else s.unit.stage }
  writers : ∀ d : DeliveryId, q ≠ dq d → t.writer d = s.writer d
  egress : ∀ l : LinkId, (t.set l).pending = (s.set l).pending ∧ (t.set l).inFlight = (s.set l).inFlight
    ∧ (q ≠ sq l → t.set l = s.set l)
  status : t.status = { s.status with waiters := t.status.waiters, reserved := t.status.reserved }
  discarded : NewlyDiscarded (fun a => HostAccess.queue? a = some q ∧ a ≠ .cqDeviceWord ∧ ∀ l, a ≠ .sqDeviceWord l) s t
  contents : ∀ i : SlotId, (t.slot i).frame = (s.slot i).frame
  rest : t.pending = s.pending ∧ t.time = s.time ∧ t.links = s.links ∧ t.store.reserve = s.store.reserve
    ∧ t.routing = s.routing ∧ t.twin = s.twin
    ∧ t.mailboxes = s.mailboxes ∧ t.mailboxRead = s.mailboxRead ∧ t.schedule = s.schedule ∧ t.host = s.host
    ∧ t.notices = s.notices ∧ t.lost = s.lost

/-- The device has become FAULTED, from `s`, in which the access that failed has ended, to `t` (R143): cause STQ_FAULT, the FAULT cause of
IRQ raised, the host side stopped; queue states, coalescing, egress entries and the notice list are kept. -/
structure DeviceFaulted (s t : State) : Prop where
  host : t.host = { s.host with state := .faulted, lastCause := .stqFault, causes := s.host.causes ||| 8#4 }
  stopped : HostSideStopped s t
  queues : ∀ q : QueueId, t.queue q = { s.queue q with reading := false, reread := false }
  egress : ∀ l : LinkId, (t.set l).pending = (s.set l).pending ∧ (t.set l).inFlight = (s.set l).inFlight
  notices : t.notices = s.notices ∧ t.lost = s.lost ∧ t.posted = s.posted

/-! ## One link changed -/

/-- The state with one link controller replaced and these notices posted by it, and nothing else changed. -/
def withLink (l : LinkId) (k : Link) (notices : List NoticeBody) (s : State) : State :=
  { s with links := s.links.set l.val k l.isLt, posted := s.posted ++ notices.map fun b => { body := b, time := s.time } }

/-- The LINK_STATE notice of a link that changes mode by itself, under its report_mask bit (R34). -/
def stateNotice (l : LinkId) (k : Link) (new : Mode) : List NoticeBody :=
  if k.config.reportMask.linkState = true then [.linkState l k.mode new] else []

/-- The LINK_HEALTH notice of a link whose score becomes `score`, when the band changes and under its report_mask bit (R24, R34). -/
def healthNotice (l : LinkId) (k : Link) (score : Nat) : List NoticeBody :=
  if healthOf score ≠ k.health ∧ k.config.reportMask.linkHealth = true then [.linkHealth l k.health (healthOf score) score] else []

/-! ## Errors and abort marks on a line (R5, R7-R10) -/

/-- The line of these frame bits from the start mark through the last of them, without the stuffing bit that may follow it (R2). -/
def sentThrough (bits : Line) : Line := stuff bits.dropLast ++ bits.getLast?.toList

/-- An error of this kind is settled at the last of these samples, as `outcome` reads samples: whatever number of dominant bit-times
follows, the end is taken at the tenth recessive one after them, or at the 32nd of the dominant run (R5, R8, R10). -/
def ErrorEnds {α : Type} (outcome : Line → Option α) (kind : α) (line : Line) : Prop :=
  ∀ n, let held := line ++ List.replicate n false
    (trailingRun false 0 held < 32 → outcome (held ++ List.replicate 10 true) = some kind)
      ∧ (trailingRun false 0 held = 32 → outcome held = some kind)

/-- A dominant bit-time after these samples begins or goes on with a run that is classified by its length (R7): 10-31 bit-times are an
abort mark, fewer are short, and the 32nd ends the frame as short. -/
def RunEnds {α : Type} (outcome : Line → Option α) (abort short : α) (line : Line) : Prop :=
  ∀ n, 1 ≤ n → let held := line ++ List.replicate n false
    (trailingRun false 0 held ≤ 9 → outcome (held ++ List.replicate 10 true) = some short)
      ∧ (10 ≤ trailingRun false 0 held → trailingRun false 0 held ≤ 31 → outcome (held ++ List.replicate 10 true) = some abort)
      ∧ (trailingRun false 0 held = 32 → outcome held = some short)

/-- The device starts its abort mark after exactly these samples (R7): 12 dominant bit-times while ONLINE in GOOD or CAUTION, nothing in
any other mode and health, and nothing more after further samples. -/
def MarkStarts (mark : Link → Line → Line) (line : Line) : Prop :=
  ∀ k : Link, mark k line = (if k.mode = .online ∧ k.health ≠ .muted then List.replicate 12 false else [])
    ∧ ∀ more : Line, more ≠ [] → mark k (line ++ more) = []

/-- The device's abort mark after a dominant run (R7, R10): after a short one it starts at the recessive bit-time that ends it, and there is
none once the run has reached 10. -/
def RunMarks (mark : Link → Line → Line) (line : Line) : Prop :=
  ∀ n, 1 ≤ n → let held := line ++ List.replicate n false
    (trailingRun false 0 held ≤ 9 → MarkStarts mark (held ++ [true]))
      ∧ (10 ≤ trailingRun false 0 held → ∀ (k : Link) (more : Line), mark k (held ++ more) = [])

/-- The device, receiving, starts its abort mark after exactly these samples and drives no acknowledgement from there on (R7, R9). -/
def ReceiverMarks (line : Line) : Prop :=
  MarkStarts Link.receiverAbortMark line ∧ ∀ (k : Link) (more : Line), k.acknowledges (line ++ more) = false

/-! ## When a happening arises (section 1.8 of the scope; log 1) -/

/-- No frame is under way on the link: no reception in progress (R8) and no attempt in flight (R10). -/
def NoFrame (l : LinkId) (s : State) : Prop := (s.link l).reception = none ∧ (s.set l).inFlight = none

/-- Device time has reached this time (R164). -/
def Reached (t : Time) (s : State) : Prop := (s.time - t).toNat < 2 ^ 31

/-- A fetch may ask for a credit: the device is ATTACHED, the queue ACTIVE with a record available (R128, R132, R133). -/
def MayFetch (q : QueueId) (s : State) : Prop :=
  s.host.state = .attached ∧ (s.queue q).state = .active ∧ 0 < (s.queue q).available

/-- The classification in progress is in dispatch and its next hand-overs are these (R64-R67). -/
def Dispatching (s : State) (next : Classification → Prop) : Prop :=
  ∃ c, s.routing.classification = some c ∧ c.stage = .dispatch ∧ next c

/-- What a row of the table needs to arise in a state, by the rule that describes its happening. Writes to registers and resets need nothing. A
command's row needs the command in execution with its own access not yet begun (R132), an end or a fault the access or the frame that ends, a
timer its time (R80, R107, R120, R138), and a hand-over or a request what is handed or asked for. -/
def Arises (i : Instr) (s : State) : Prop :=
  match i with
  | .powerOnReset => True
  | .reset _ => True
  | .start _ => True
  | .detach _ => True
  | .controlEnablesWrite _ _ => True
  | .cbaWrite _ _ => True
  | .kick _ => True
  | .irqClear _ => True
  | .registerWrite _ _ => True
  | .attachReadEnd _ => s.host.state = .attaching
  | .hostAccessEnd a => (∃ x ∈ s.discarded, x.access = a)
      ∨ (a = .commandBuffer ∧ s.host.state = .detaching ∧ ∃ tag c own, Accessing tag c own s)
  | .hostMemoryFault a => s.accessLive a = true ∨ ∃ x ∈ s.discarded, x.access = a
  | .quietInterval l => (s.link l).mode ≠ .offline ∧ (s.link l).stuck = false ∧ NoFrame l s
  | .stuckEpisodeStart l => (s.link l).mode ≠ .offline ∧ (s.link l).stuck = false ∧ NoFrame l s
      ∧ ((s.link l).following = false ∨ (s.link l).idleIn ≠ 0)
  | .stuckEpisodeEnd l => (s.link l).stuck = true
  | .receptionBegin l => (s.link l).mode ≠ .offline ∧ (s.link l).following = true ∧ (s.link l).stuck = false ∧ NoFrame l s
  | .receptionEnd l line => ∃ opening outcome, (s.link l).reception = some opening ∧ receptionEnds opening line = some outcome
  | .contentionOpportunity l => (s.link l).mode = .online ∧ (s.link l).deferral = false ∧ (s.link l).following = true
      ∧ (s.link l).stuck = false ∧ NoFrame l s ∧ (s.set l).pending ≠ []
  | .contentionLost l line => ∃ e, (s.set l).inFlight = some e ∧ losesContention e.key e.seq (s.slot e.slot).frame.payload line = true
  | .attemptEnd l line => ∃ e outcome, (s.set l).inFlight = some e
      ∧ attemptOutcome e.key e.seq (s.slot e.slot).frame.payload line = some outcome
  | .receptionSlotRequest l => (s.link l).toStore ≠ []
  | .inputListAppend l => (s.link l).toInput ≠ []
  | .sendFetchSlotRequest l => (s.fetcher l).stage = .slot ∧ l ∉ s.store.waiters
  | .classification => s.routing.classification = none ∧ s.routing.input ≠ []
  | .classificationEnd => Dispatching s fun c => c.outLinks = [] ∧ c.outQueues = [] ∧ c.outMailboxes = []
  | .twinCheck => ∃ c g, s.routing.classification = some c ∧ c.stage = .twinWait ∧ c.twinGroup = some g
  | .twinExpiry g key seq => ∃ e ∈ s.twin.table, e.group = g ∧ e.key = key ∧ e.seq = seq ∧ Reached e.expiry s
  | .mailboxStore m => Dispatching s fun c => ∃ rest, c.outMailboxes = m :: rest
  | .forwardAdmission l => Dispatching s fun c => ∃ key rest, c.outLinks = (l, key) :: rest
  | .backlogAppend d => Dispatching s fun c => ∃ tag rest, c.outQueues = (d, tag) :: rest
  | .hostAdmission l => (s.fetcher l).admission ≠ none
  | .emissionRequest e => (s.entry e).requests ≠ []
  | .placeRequest l => (s.fetcher l).stage = .place ∧ (s.fetcher l).admission = none ∧ (s.set l).waiting = false ∧ (s.set l).reserved = false
  | .deadlineExpiry l admission => ∃ e ∈ (s.set l).pending, e.admission = admission ∧ ∃ t, e.deadline = some t ∧ Reached t s
  | .emission e => (s.entry e).state = .armed ∧ (s.entry e).template ≠ none ∧ ∃ t, (s.entry e).nextDue = some t ∧ Reached t s
  | .emissionAnswer e => ∃ a rest, (s.entry e).inbox = .answer a :: rest
  | .copyEnd e => ∃ c rest, (s.entry e).inbox = .ended c :: rest
  | .creditRequest .commandUnit => s.unit.stage = .idle ∧ MayFetch cq s
  | .creditRequest (.fetcher l) => (s.fetcher l).stage = .none ∧ MayFetch (sq l) s
  | .indexReadEnd q _ => (s.queue q).reading = true
  | .commandTaken _ => s.unit.stage = .reading
  | .nop _ => s.unit.stage = .reading
  | .cqDeviceWordWriteEnd => s.unit.wordWrite = true
  | .sendRecordTaken l _ => (s.fetcher l).stage = .reading ∧ (s.fetcher l).slot ≠ none
  | .sqDeviceWordWriteEnd l => (s.fetcher l).stage = .index
  | .deliveryWriteStart d => s.host.state = .attached ∧ (s.queue (dq d)).state = .active ∧ (s.writer d).stage = .idle
      ∧ (s.writer d).backlog ≠ [] ∧ (s.queue (dq d)).full = false
  | .deliveryRecordWriteEnd d => (s.writer d).stage = .record
  | .dqDeviceWordWriteEnd d => (s.writer d).stage = .index
  | .statusWriteStart => s.host.state = .attached ∧ s.status.stage = .idle ∧ (s.queue stq).state = .active
      ∧ (s.status.completions ≠ [] ∨ (s.notices ≠ [] ∧ 0 < s.credits))
  | .statusRecordWriteEnd => s.status.stage = .record
  | .stqDeviceWordWriteEnd => s.status.stage = .index
  | .noticePost source => ∃ n ∈ s.posted, n.body.source = source
  | .holdoffExpiry q => ∃ t, (s.queue q).holdoffEnd = some t ∧ Reached t s
  | .queueEnable q => ∃ tag, Handed tag (.queueEnable q) s
  | .queueDisable q => ∃ tag, Handed tag (.queueDisable q) s
  | .queueStatus q => ∃ tag, Handed tag (.queueStatus q) s
  | .storeReserve n => ∃ tag, Handed tag (.storeReserve n) s
  | .linkConfig l cfg => ∃ tag, Handed tag (.linkConfig l cfg) s
  | .linkMode l mode => ∃ tag, Handed tag (.linkMode l mode) s
  | .linkRecover l => ∃ tag, Handed tag (.linkRecover l) s
  | .linkForce l => ∃ tag, Handed tag (.linkForce l) s
  | .linkStatus l address clear => ∃ tag, Handed tag (.linkStatus l address clear) s
  | .sendCancel l request => ∃ tag, Handed tag (.sendCancel l request) s
  | .egressFlush l => ∃ tag, Handed tag (.egressFlush l) s
  | .ruleWrite i rule => ∃ tag, Handed tag (.ruleWrite i rule) s
  | .ruleCount n => ∃ tag, Handed tag (.ruleCount n) s
  | .ruleCopy => ∃ tag, Handed tag .ruleCopy s
  | .tableSwap => ∃ tag, Handed tag .tableSwap s
  | .ruleRead bank i address => ∃ tag, Handed tag (.ruleRead bank i address) s
  | .twinGroup g links window => ∃ tag, Handed tag (.twinGroup g links window) s
  | .twinFlush g => ∃ tag, Handed tag (.twinFlush g) s
  | .mailboxConfig m notify => ∃ tag, Handed tag (.mailboxConfig m notify) s
  | .mailboxRead m address => ∃ tag, Handed tag (.mailboxRead m address) s
  | .mailboxClear m => ∃ tag, Handed tag (.mailboxClear m) s
  | .cyclicSet e args => ∃ tag, Handed tag (.cyclicSet e args) s
  | .cyclicStart e => ∃ tag, Handed tag (.cyclicStart e) s
  | .cyclicStop e => ∃ tag, Handed tag (.cyclicStop e) s
  | .cyclicUpdate e length address => ∃ tag, Handed tag (.cyclicUpdate e length address) s
  | .cyclicClear e => ∃ tag, Handed tag (.cyclicClear e) s
  | .cyclicRead e address clear => ∃ tag, Handed tag (.cyclicRead e address clear) s
  | .queueEnableDescriptorReadEnd _ => ∃ tag q, Accessing tag (.queueEnable q) .descriptorRead s
  | .linkStatusWriteEnd _ => ∃ tag c block, Accessing tag c (.linkStatusWrite block) s
  | .ruleReadWriteEnd _ => ∃ tag c image word0, Accessing tag c (.ruleImageWrite image word0) s
  | .mailboxReadWriteEnd _ => ∃ tag c, Accessing tag c .frameImageWrite s
  | .cyclicSetReadEnd payload => ∃ tag e args slot, Accessing tag (.cyclicSet e args) (.payloadRead slot) s ∧ payload.length = args.length
  | .cyclicUpdateApply payload => ∃ tag e address, Accessing tag (.cyclicUpdate e payload.length address) .bufferRead s
  | .cyclicReadWriteEnd _ => ∃ tag c block, Accessing tag c (.cyclicStatusWrite block) s

/-! ## Descriptors (section 12.1) -/

/-- The 16 bytes that spell a descriptor. -/
def descriptorImage (d : Descriptor) : List Byte :=
  leBytes 8 d.base.toNat ++ leBytes 2 d.size ++ leBytes 1 d.interruptEnable.toNat ++ leBytes 1 d.coalesce ++ leBytes 2 d.holdoff ++ leBytes 2 0

/-! ## Grants and evaluation (R41, R56, R57) -/

/-- Slot `i` is the lowest-numbered FREE slot (R41). -/
def LowestFree (i : SlotId) (s : State) : Prop := (s.slot i).count = 0 ∧ ∀ j : SlotId, j < i → (s.slot j).count ≠ 0

/-- The bank's rule at this index matches the frame: the four conditions of R56. -/
def RuleApplies (b : Bank) (f : Frame) (i : RuleIndex) : Prop :=
  let r := b.rules[i.val]
  r.ingress.getLsbD f.ingress.val = true
    ∧ ((f.origin = .received ∧ r.origin ≠ .loopback) ∨ (f.origin = .loopback ∧ r.origin ≠ .received))
    ∧ (∀ n : Fin 16, r.keyMask.getLsbD n.val = true → f.key.getLsbD n.val = r.keyValue.getLsbD n.val)
    ∧ r.lengthMin ≤ f.payload.length ∧ f.payload.length ≤ r.lengthMax

/-- The walk reaches this index below the bank's count and its rule matches: every rule before it that matches has CONTINUE set (R57). -/
def WalkMatches (b : Bank) (f : Frame) (i : RuleIndex) : Prop :=
  i.val < b.count ∧ RuleApplies b f i ∧ ∀ j : RuleIndex, j < i → RuleApplies b f j → b.rules[j.val].continueWalk = true

end Sys2Proof.Machine
end

