-- ==== Sys2Proof/Certificates/Slice0/Obligations.lean ====
section
/-! DEFINITION. The statements for the provers. They come from the numbered rules of spec/; where one rests on a choice of the model, its
docstring names the log entry. -/

open Sys2Proof Sys2Proof.Machine

/-! ## The machine -/

/-- A step takes the happening at the front of the queue, whole, on the state with the rest of the queue (section 1.8); with none
waiting a microsecond of device time passes and nothing else changes (R164; the model's choice of what an empty queue does is log 2). -/
def Obligations.StepTakesFrontOfQueue : Prop :=
  (∀ (c : Instr) (q : List Instr) (s : State), s.pending = c :: q → step s = exec c { s with pending := q })
    ∧ ∀ s : State, s.pending = [] → step s = .next { s with time := s.time + 1#32 }

/-- No happening stops the device, none changes the queue of happenings, and none but a reset, which makes device time 0, changes
device time (R164, R165); a CONTROL write with RESET alone is a reset in each form it can be given, the ill-formed one of the row
CONTROL_ENABLES_WRITE among them (R160). A happening that cannot arise leaves the state as it is, whatever its row: Arises says what each needs.
Writes to registers and resets need nothing; a command needs to be in execution with its own access not begun, and an end, a fault, an answer, an
admission or an append what is under way or handed on; a quiet interval, a stuck episode, a reception or a contention opportunity needs the mode, the
flags and the bus that R6, R8, R12, R13, R15 and R101 name; a timer needs its time (R80, R107, R120, R138, R164). Model's choices: what cannot arise
changes nothing (log 1), a reset keeps the happenings waiting (log 3), device time passes on an empty queue alone (log 2), a command's row comes after
its record is taken and NOP's is that taking (log 4), a hand-over stands in the state until it is taken (logs 15, 16), a place is asked for after the
record before it is admitted (log 17), the fault of a discarded access is its end (log 24), and a link with a frame under way takes no quiet interval
(log 43). -/
def Obligations.EveryHappeningAnswersNext : Prop :=
  (∀ (c : Instr) (s : State), ∃ t, exec c s = .next t ∧ t.pending = s.pending
    ∧ (t.time = s.time ∨ (c = .powerOnReset ∧ t = State.afterReset .power s.pending)
      ∨ (((∃ enables, c = .reset enables ∨ c = .controlEnablesWrite enables 4#3)
          ∨ ∃ value, c = .registerWrite .control value ∧ value.extractLsb' 0 3 = 4#3)
        ∧ t = State.afterReset .device s.pending)))
    ∧ ∀ (c : Instr) (s : State), ¬Arises c s → exec c s = .next s

/-! ## Reset and the register window (chapter 11) -/

/-- What the state after power-on reset holds, as chapter 1, R17, R33, R35, R37, R51, R52, R75, R76, R85, R94, R117, R129, R131, R134-R137,
R141 (section 9.12) and R159 give it; fields for which the manual gives no value (log 10) are not named. Both resets, and a CONTROL write with
RESET alone in whatever state and with whatever enables, put every block in that state; last reset alone tells them apart (R160, R165), and
happenings already waiting stay (log 3). -/
def Obligations.ResetsLeaveManualValues : Prop :=
  (let s := State.reset
  (∀ l : LinkId, (s.link l).mode = .offline ∧ (s.link l).score = 0 ∧ (s.link l).health = .good ∧ (s.link l).probation = none
      ∧ (s.link l).config = { bitTime := 0, recoveryPolicy := .auto, isolateAction := .hold, reportMask := ⟨true, true, true⟩,
                              unmatchedQueue := none, forwardRetries := 3, forwardLifetime := 0 }
      ∧ (s.link l).counters = ⟨0, 0, 0, 0, 0, 0, 0, 0, 0, 0⟩ ∧ (s.link l).reception = none ∧ (s.link l).stuck = false
      ∧ (s.link l).deferral = false ∧ (s.link l).recessiveRun = 0 ∧ (s.link l).dominantRun = 0)
    ∧ (∀ i : SlotId, (s.slot i).count = 0) ∧ s.store.freeCount = 384 ∧ s.store.reserve = 16 ∧ s.store.waiters = []
    ∧ (∀ i : RuleIndex, ∀ bank ∈ [s.routing.bankA, s.routing.bankB], bank.rules[i.val] =
        { ingress := 0, origin := .received, keyValue := 0, keyMask := 0, lengthMin := 0, lengthMax := 64, links := 0, rewriteKey := none,
          delivery := 0, tag := 0, mailbox := none, continueWalk := false, twin := none })
    ∧ s.routing.bankA.count = 0 ∧ s.routing.bankB.count = 0 ∧ s.routing.active = .a ∧ s.routing.input = []
    ∧ s.routing.classification = none
    ∧ (∀ g : GroupId, s.group g = { links := 0, window := 0, passed := 0, suppressed := 0, evicted := 0 }) ∧ s.twin.table = []
    ∧ (∀ m : MailboxId, s.mailbox m = { content := none, fresh := false, overwrites := 0, notify := false }) ∧ s.mailboxRead = none
    ∧ (∀ l : LinkId, s.set l = { pending := [], inFlight := none, reserved := false, waiting := false, counter := 0 })
    ∧ (∀ e : ScheduleId, (s.entry e).link = 0 ∧ (s.entry e).key = 0 ∧ (s.entry e).period = 1 ∧ (s.entry e).phase = 0
        ∧ (s.entry e).policy = .skip ∧ (s.entry e).budget = 0 ∧ (s.entry e).seq = 0)
    ∧ (∀ e : ScheduleId, (s.entry e).state = .empty ∧ (s.entry e).template = none ∧ (s.entry e).nextDue = none
        ∧ (s.entry e).outstanding = false ∧ (s.entry e).unanswered = 0 ∧ (s.entry e).counters = ⟨0, 0, 0, 0, 0, 0, 0⟩)
    ∧ (∀ q : QueueId, s.queue q =
        { state := .disabled, cause := none, desc := ⟨0, 16, false, 1, 0⟩, known := 0, device := 0, reading := false, reread := false,
          counted := 0, holdoffEnd := none })
    ∧ (∀ d : DeliveryId, s.writer d = { backlog := [], stage := .idle, drops := 0, arm := false })
    ∧ (∀ l : LinkId, (s.fetcher l).stage = .none)
    ∧ s.status.reserved = 0 ∧ s.status.waiters = [] ∧ s.status.completions = [] ∧ s.status.stage = .idle
    ∧ s.notices = [] ∧ s.lost = 0 ∧ s.unit.stage = .idle ∧ s.unit.execution = none
    ∧ s.host.state = .detached ∧ irqLine s.host = false
    ∧ readRegister .ident s = 0x0F440100#32 ∧ readRegister .control s = 0 ∧ readRegister .state s = 0 ∧ readRegister .cbaLo s = 0
    ∧ readRegister .cbaHi s = 0 ∧ readRegister .kick s = 0 ∧ readRegister .irq s = 0 ∧ readRegister .time s = 0)
    ∧ ∀ s : State, exec .powerOnReset s = .next { State.reset with pending := s.pending }
    ∧ (∀ enables, exec (.reset enables) s =
        .next { State.reset with pending := s.pending, host := { State.reset.host with lastReset := .device } })
    ∧ (∀ value : BitVec 32, value.extractLsb' 0 3 = 4#3 → exec (.registerWrite .control value) s =
        .next { State.reset with pending := s.pending, host := { State.reset.host with lastReset := .device } })
    ∧ readRegister .state { State.reset with host := { State.reset.host with lastReset := .device } } = 0x00010000#32

/-- Writes to CONTROL without RESET alone follow the table of R160 by the host-side state: ignored whole in ATTACHING and DETACHING;
elsewhere the enables are stored, a START from DETACHED begins the attach or fails on an address that is not 64-byte aligned (R141; that it
fails within START is log 13), and START or DETACH where it does not apply does no more. Everything else is unchanged. -/
def Obligations.ControlWritesFollowHostState : Prop :=
  ∀ (s : State) (enables : BitVec 4) (actions : BitVec 3),
    let stored := { s with host := { s.host with enables := enables } }
    ((s.host.state = .attaching ∨ s.host.state = .detaching) →
        exec (.start enables) s = .next s ∧ exec (.detach enables) s = .next s
          ∧ (actions ≠ 4#3 → exec (.controlEnablesWrite enables actions) s = .next s))
      ∧ (s.host.state = .detached ∨ s.host.state = .attached ∨ s.host.state = .faulted →
          actions ≠ 1#3 → actions ≠ 2#3 → actions ≠ 4#3 → exec (.controlEnablesWrite enables actions) s = .next stored)
      ∧ (s.host.state = .detached → exec (.detach enables) s = .next stored)
      ∧ (s.host.state = .attached ∨ s.host.state = .faulted → exec (.start enables) s = .next stored)
      ∧ (s.host.state = .detached → (s.host.cbaHi ++ s.host.cbaLo).toNat % 64 = 0 →
          exec (.start enables) s = .next { s with host := { s.host with enables := enables, state := .attaching } })
      ∧ (s.host.state = .detached → (s.host.cbaHi ++ s.host.cbaLo).toNat % 64 ≠ 0 →
          exec (.start enables) s = .next { s with host := { s.host with
            enables := enables, lastCause := .badControlBlock, causes := s.host.causes ||| 1#4 } })

/-- DETACH from ATTACHED or FAULTED (R142, R113): the enables are stored, the host side is stopped, notices, the lost count and the
reserved count are cleared, every queue is DISABLED with cause absent and coalescing at rest, pending HOST entries are gone and the one in
flight is orphaned, while FORWARD entries and CYCLIC copies stay in order. The device is DETACHED at once when no access and no command is
outstanding, and DETACHING otherwise; the last cause and the interrupt causes stay. Two points are the model's choices: a record already handed
for admission, which the rules do not name, is held no more, nor its place (log 18), and notices posted and not yet taken stay posted (log 29).
The counts of slots are not stated here but in ReferencesStayCounted (R38). -/
def Obligations.DetachTearsDownHostSide : Prop :=
  ∀ (s : State) (enables : BitVec 4), Consistent s → s.host.state = .attached ∨ s.host.state = .faulted →
    ∃ t, exec (.detach enables) s = .next t ∧ HostSideStopped s t
      ∧ t.host = { s.host with
          enables := enables, state := if t.discarded = [] ∧ s.unit.execution = none then .detached else .detaching }
      ∧ t.notices = [] ∧ t.lost = 0 ∧ t.status.reserved = 0 ∧ t.posted = s.posted
      ∧ (∀ q : QueueId, t.queue q =
          { s.queue q with
            state := .disabled, cause := none, counted := 0, holdoffEnd := none, reading := false, reread := false })
      ∧ ∀ l : LinkId, (t.set l).pending = (s.set l).pending.filter (fun e => !e.isHost)
          ∧ (t.set l).inFlight = (s.set l).inFlight.map Entry.orphan

/-- The registers and their offsets 00h-1Ch, with none elsewhere (R159). CBA halves are stored in DETACHED and ignored elsewhere; writes to read-only
registers are ignored; a write to any register is the happening of its row. A write to IRQ (R138, R163) clears each cause written 1; a 1 written to
STATUS acknowledges the STQ and a 1 written to DELIVERY every DQ, setting records counted to 0 and stopping the holdoff, whether or not the cause was
set. Every register reads field by field, and 0 in every bit that the layout does not name (R159, R161), and the interrupt line is asserted exactly
while a cause is set whose enable is set (R163). -/
def Obligations.RegisterWindowReadsAndWrites : Prop :=
  (∀ (s : State) (value : BitVec 32),
    (s.host.state = .detached →
        exec (.cbaWrite .lo value) s = .next { s with host := { s.host with cbaLo := value } }
          ∧ exec (.cbaWrite .hi value) s = .next { s with host := { s.host with cbaHi := value } }
          ∧ exec (.registerWrite .cbaLo value) s = .next { s with host := { s.host with cbaLo := value } }
          ∧ exec (.registerWrite .cbaHi value) s = .next { s with host := { s.host with cbaHi := value } })
      ∧ (s.host.state ≠ .detached → (∀ half, exec (.cbaWrite half value) s = .next s)
          ∧ exec (.registerWrite .cbaLo value) s = .next s ∧ exec (.registerWrite .cbaHi value) s = .next s)
      ∧ exec (.registerWrite .ident value) s = .next s ∧ exec (.registerWrite .state value) s = .next s
      ∧ exec (.registerWrite .time value) s = .next s
      ∧ exec (.registerWrite .kick value) s = exec (.kick value) s
      ∧ exec (.registerWrite .irq value) s = exec (.irqClear value) s
      ∧ (value.extractLsb' 0 3 = 1#3 → exec (.registerWrite .control value) s = exec (.start (value.extractLsb' 8 4)) s)
      ∧ (value.extractLsb' 0 3 = 2#3 → exec (.registerWrite .control value) s = exec (.detach (value.extractLsb' 8 4)) s)
      ∧ exec (.registerWrite .control value) s =
          exec (.controlEnablesWrite (value.extractLsb' 8 4) (value.extractLsb' 0 3)) s)
    ∧ (∀ (s : State) (value : BitVec 32), ∃ t, exec (.irqClear value) s = .next t
    ∧ t = { s with queues := t.queues, host := { s.host with causes := t.host.causes } }
    ∧ (∀ n : Fin 4, t.host.causes.getLsbD n.val = (s.host.causes.getLsbD n.val && !value.getLsbD n.val))
    ∧ ∀ q : QueueId, t.queue q =
        if (value.getLsbD 1 = true ∧ q.val = 13) ∨ (value.getLsbD 2 = true ∧ 5 ≤ q.val ∧ q.val ≤ 12) then
          { s.queue q with counted := 0, holdoffEnd := none }
        else s.queue q)
    ∧ ∀ s : State,
    readRegister .ident s = 0x0F440100#32
      ∧ (readRegister .control s).extractLsb' 8 4 = s.host.enables ∧ (readRegister .control s).extractLsb' 0 8 = 0#8
      ∧ (readRegister .control s).extractLsb' 12 20 = 0#20
      ∧ (readRegister .state s).extractLsb' 0 3 =
          (match s.host.state with | .detached => 0#3 | .attaching => 1#3 | .attached => 2#3 | .detaching => 3#3 | .faulted => 4#3)
      ∧ (readRegister .state s).extractLsb' 8 2 =
          (match s.host.lastCause with | .none => 0#2 | .badControlBlock => 1#2 | .hostFault => 2#2 | .stqFault => 3#2)
      ∧ (readRegister .state s).getLsbD 16 = (s.host.lastReset == .device) ∧ (readRegister .state s).extractLsb' 3 5 = 0#5
      ∧ (readRegister .state s).extractLsb' 10 6 = 0#6 ∧ (readRegister .state s).extractLsb' 17 15 = 0#15
      ∧ readRegister .cbaLo s = s.host.cbaLo ∧ readRegister .cbaHi s = s.host.cbaHi ∧ readRegister .kick s = 0#32
      ∧ (readRegister .irq s).extractLsb' 0 4 = s.host.causes ∧ (readRegister .irq s).extractLsb' 4 28 = 0#28 ∧ readRegister .time s = s.time
      ∧ (irqLine s.host = true ↔ ∃ n : Fin 4, s.host.causes.getLsbD n.val = true ∧ s.host.enables.getLsbD n.val = true)
      ∧ ∀ value : BitVec 32, let window :=
          [(0x00, Register.ident), (0x04, .control), (0x08, .state), (0x0C, .cbaLo), (0x10, .cbaHi), (0x14, .kick), (0x18, .irq), (0x1C, .time)]
        (∀ p ∈ window, readRegisterAt p.1 s = some (readRegister p.2 s) ∧ registerWriteAt p.1 value = some (.registerWrite p.2 value))
          ∧ ∀ offset, (∀ p ∈ window, offset ≠ p.1) → readRegisterAt offset s = none ∧ registerWriteAt offset value = none



/-! ## Host-memory accesses, index reads and credits (chapter 9) -/

/-- The end of the reads of ATTACHING (R141): a fault ends in DETACHED with HOST_FAULT, an invalid header or descriptor in DETACHED with
BAD_CONTROL_BLOCK, and otherwise CQ and STQ are loaded and ACTIVE with indices 0, credits, completions, notices and the lost count are at
their attach values, the lap value is 1 and the device is ATTACHED with cause NONE. The ATTACH cause is raised in every case. A header of 64 bytes
is valid exactly when its format version is 1 and the rest is 0; a descriptor of 16 bytes is valid for a queue exactly when it spells, by section
12.1, a base aligned to 64, a size of 16 to 4096 that is a power of two, no interrupt enable for CQ and the send queues, and under interrupt
enable a coalescing count of 1 to 64, with reserved fields 0; and it gives what it spells (R127). While ATTACHING the device reads the 64 bytes of
the header and the 16 bytes of each of the two descriptors at their places in the control block. That notices posted and not yet taken stay posted
(log 29), and that an address past 2^64 wraps (log 42), are the model's choices. -/
def Obligations.AttachReadsEndAttaching : Prop :=
  (∀ header : List Byte, header.length = 64 → (headerValid header = true ↔ header = [1#8, 0#8, 0#8, 0#8] ++ List.replicate 60 0#8))
    ∧ (∀ (q : QueueId) (b : List Byte), b.length = 16 →
      (descriptorValid q b = true ↔ ∃ d : Descriptor, b = descriptorImage d
        ∧ d.base.toNat % 64 = 0 ∧ d.size ∈ [16, 32, 64, 128, 256, 512, 1024, 2048, 4096] ∧ d.coalesce < 2 ^ 8 ∧ d.holdoff < 2 ^ 16
        ∧ (d.interruptEnable = true → 5 ≤ q.val ∧ 1 ≤ d.coalesce ∧ d.coalesce ≤ 64)))
    ∧ (∀ d : Descriptor, d.size < 2 ^ 16 → d.coalesce < 2 ^ 8 → d.holdoff < 2 ^ 16 → descriptorOf (descriptorImage d) = d)
    ∧ ∀ s : State, s.host.state = .attaching →
    let block := s.host.cbaHi ++ s.host.cbaLo
    (∀ p ∈ [(block, 64), (block + 64#64, 16), (block + 272#64, 16)],
        { access := .controlBlock, address := p.1, length := p.2 } ∈ hostReads s)
      ∧ exec (.attachReadEnd .fault) s = .next { s with host := { s.host with
        state := .detached, lastCause := .hostFault, causes := s.host.causes ||| 1#4 } }
      ∧ ∀ header cqBytes stqBytes,
        ((headerValid header = false ∨ descriptorValid cq cqBytes = false ∨ descriptorValid stq stqBytes = false) →
            exec (.attachReadEnd (.data header cqBytes stqBytes)) s = .next { s with host := { s.host with
              state := .detached, lastCause := .badControlBlock, causes := s.host.causes ||| 1#4 } })
          ∧ (headerValid header = true → descriptorValid cq cqBytes = true → descriptorValid stq stqBytes = true →
            ∃ t, exec (.attachReadEnd (.data header cqBytes stqBytes)) s = .next t
              ∧ t = { s with
                  queues := t.queues, notices := [], lost := 0
                  status := { reserved := 0, waiters := [], completions := [], stage := .idle, current := none, lap := true }
                  unit := { s.unit with stage := .idle, execution := none, wordWrite := false }
                  host := { s.host with state := .attached, lastCause := .none, causes := s.host.causes ||| 1#4 } }
              ∧ (∀ q : QueueId, q ≠ cq → q ≠ stq → t.queue q = s.queue q)
              ∧ (∀ q : QueueId, q = cq ∨ q = stq → t.queue q =
                  { state := .active, cause := none, desc := descriptorOf (if q = cq then cqBytes else stqBytes), known := 0,
                    device := 0, reading := false, reread := false, counted := 0, holdoffEnd := none }))

/-- The end of an access whose effect is discarded (R134, R142): it leaves the list and releases the slot it kept; and while DETACHING the
own access of the command in execution ends with the result discarded, a mailbox read and a payload read releasing their slots (R89, R118).
The last such end makes a DETACHING device DETACHED. That of two discarded accesses of one kind the older ends first is the model's choice (log 41). -/
def Obligations.DiscardedAccessesEndQuietly : Prop :=
  (∀ (s : State) (a : HostAccess) (x : DiscardedAccess), s.discarded.find? (fun y => y.access = a) = some x →
      (a = .commandBuffer → s.host.state ≠ .detaching ∨ s.unit.execution = none) →
      let released := match x.slot with
        | some i => releaseSlot i s
        | none => s
      exec (.hostAccessEnd a) s = .next { released with
        discarded := s.discarded.erase x
        host := if s.host.state = .detaching ∧ s.discarded.erase x = [] ∧ s.unit.execution = none then
            { s.host with state := .detached } else s.host })
    ∧ ∀ (s : State) (tag : BitVec 32) (c : Command) (a : CommandAccess), Accessing tag c a s → s.host.state = .detaching →
      (a = .frameImageWrite ↔ s.mailboxRead.isSome = true) →
      let released := match a, s.mailboxRead with
        | .payloadRead i, _ => releaseSlot i s
        | .frameImageWrite, some r => releaseSlot r.slot s
        | _, _ => s
      exec (.hostAccessEnd .commandBuffer) s = .next { released with
        mailboxRead := none
        unit := { s.unit with stage := if s.unit.wordWrite = true then .finishing else .idle, execution := none }
        host := if s.discarded = [] then { s.host with state := .detached } else s.host }

/-- HOST_MEMORY_FAULT of an access of an ACTIVE queue other than STQ ends that access and faults its queue with HOST_FAULT, whichever access it
is; the queue's other accesses under way are discarded, a delivery writer's with the slot reference it keeps, but a record or command already taken
goes on, its device-word write included (R134, R139). -/
def Obligations.QueueAccessFaultsFaultTheQueue : Prop :=
  ∀ s : State, Consistent s → s.host.state = .attached →
    (∀ q : QueueId, q ≠ stq → (s.queue q).state = .active → (s.queue q).reading = true →
        ∃ t, exec (.hostMemoryFault (.indexRead q)) s = .next t
          ∧ QueueFaulted q .hostFault (s.modQueue q fun x => { x with reading := false }) t)
      ∧ ((s.queue cq).state = .active → s.unit.stage = .reading →
        ∃ t, exec (.hostMemoryFault .commandRecord) s = .next t
          ∧ QueueFaulted cq .hostFault { s with unit := { s.unit with stage := .idle } } t)
      ∧ ((s.queue cq).state = .active → s.unit.wordWrite = true →
        ∃ t, exec (.hostMemoryFault .cqDeviceWord) s = .next t
          ∧ QueueFaulted cq .hostFault { s with unit := { s.unit with
              wordWrite := false, stage := if s.unit.stage = .finishing then .idle else s.unit.stage } } t)
      ∧ (∀ l : LinkId, (s.queue (sq l)).state = .active →
        ((s.fetcher l).stage = .reading →
            ∃ t, exec (.hostMemoryFault (.sendRecord l)) s = .next t
              ∧ QueueFaulted (sq l) .hostFault (s.modFetcher l fun f => { f with stage := .none }) t)
          ∧ ((s.fetcher l).stage = .index → ∃ t, exec (.hostMemoryFault (.sqDeviceWord l)) s = .next t
              ∧ QueueFaulted (sq l) .hostFault (s.modFetcher l fun f => { f with stage := .none }) t))
      ∧ ∀ d : DeliveryId, (s.queue (dq d)).state = .active →
        ((s.writer d).stage = .record →
            ∃ t, exec (.hostMemoryFault (.deliveryRecord d)) s = .next t
              ∧ QueueFaulted (dq d) .hostFault (s.modWriter d fun w => { w with stage := .idle }) t)
          ∧ ((s.writer d).stage = .index →
            ∃ t, exec (.hostMemoryFault (.dqDeviceWord d)) s = .next t
              ∧ QueueFaulted (dq d) .hostFault (s.modWriter d fun w => { w with stage := .idle }) t)

/-- A fault of any STQ access while the device is ATTACHED makes the device FAULTED, and so does an STQ host word out of range, its four
bytes read least significant first (R143, R166). The write that faulted advances nothing. The rules do not name a record handed for admission,
nor what FAULTED keeps of notices, of the lost count and of the write of the CQ device word: that such a record is dropped (log 18), that the
first two are kept and that the third is discarded (log 21) are the model's choices. -/
def Obligations.StatusRingFaultsStopTheDevice : Prop :=
  ∀ s : State, Consistent s → s.host.state = .attached →
    (s.status.stage = .record → ∃ t, exec (.hostMemoryFault .statusRecord) s = .next t
        ∧ DeviceFaulted { s with status := { s.status with stage := .idle, current := none } } t)
      ∧ (s.status.stage = .index → ∃ t, exec (.hostMemoryFault .stqDeviceWord) s = .next t
        ∧ DeviceFaulted { s with status := { s.status with stage := .idle, current := none } } t)
      ∧ ((s.queue stq).reading = true → ∃ t, exec (.hostMemoryFault (.indexRead stq)) s = .next t
        ∧ DeviceFaulted (s.modQueue stq fun x => { x with reading := false }) t)
      ∧ ∀ b0 b1 b2 b3 : Byte, (s.queue stq).reading = true →
        (s.queue stq).desc.size ≤ b0.toNat + 2 ^ 8 * b1.toNat + 2 ^ 16 * b2.toNat + 2 ^ 24 * b3.toNat →
        ∃ t, exec (.indexReadEnd stq [b0, b1, b2, b3]) s = .next t
          ∧ DeviceFaulted (s.modQueue stq fun x => { x with reading := false }) t

/-- A fault of a command's own buffer completes the command HOST_FAULT and leaves its queue alone (R139); RULE_READ reports the snapshot's
letter and count (R73), a payload read releases its slot (R118). While the device is DETACHING the result is
discarded, and the fault is the end of that access and no more (R142, R144). A fault of the reads of ATTACHING ends it (R141), and the fault of an
access already discarded is its end (log 24). -/
def Obligations.BufferFaultsCompleteHostFault : Prop :=
  (∀ (s : State) (tag : BitVec 32) (c : Command) (a : CommandAccess), Accessing tag c a s → s.host.state ≠ .detaching →
      (a = .descriptorRead ∨ a = .bufferRead ∨ (∃ block, a = .linkStatusWrite block) ∨ (∃ block, a = .cyclicStatusWrite block) →
          exec (.hostMemoryFault .commandBuffer) s = .next (commandDone tag c .hostFault 0#64 0#64 s))
        ∧ (∀ image word0, a = .ruleImageWrite image word0 →
          exec (.hostMemoryFault .commandBuffer) s = .next (commandDone tag c .hostFault word0 0#64 s))
        ∧ (∀ i, a = .payloadRead i →
          exec (.hostMemoryFault .commandBuffer) s = .next (commandDone tag c .hostFault 0#64 0#64 (releaseSlot i s)))
        ∧ (a = .frameImageWrite →
          exec (.hostMemoryFault .commandBuffer) s = exec (.mailboxReadWriteEnd .fault) s))
    ∧ (∀ (s : State) (tag : BitVec 32) (c : Command) (a : CommandAccess), Accessing tag c a s → s.host.state = .detaching →
      exec (.hostMemoryFault .commandBuffer) s = exec (.hostAccessEnd .commandBuffer) s)
    ∧ (∀ s : State, s.host.state = .attaching → exec (.hostMemoryFault .controlBlock) s = exec (.attachReadEnd .fault) s)
    ∧ ∀ (s : State) (a : HostAccess), s.accessLive a = false → exec (.hostMemoryFault a) s = exec (.hostAccessEnd a) s

/-- Index reads (R130, R162). A write to KICK starts one, for each queue whose bit is set, in ATTACHED with the queue ACTIVE, or with one outstanding
requests a re-read; no other queue changes. At its end a value in range, and for a DQ or the STQ within the span from the known host index forward
to the device index, becomes the known host index, and a re-read that was requested starts; credits that rise are granted (R131). The value is
the four bytes of the host word, least significant first (R166). Any other value faults the queue with BAD_INDEX, and of the STQ makes the device
FAULTED (R143); what FAULTED does to a record handed for admission (log 18) and what it keeps (log 21) are the model's choices, and so is that the
kicks of one write are taken in one step (log 37). A read once started is of the 4 bytes at 288 + 8n of the control block (section 12.1). In every
state the reads under way, without those listed as discarded, are exactly those of R118, R123, R130, R132, R133, R140 and R141, each at its address and of
its length; that an address past 2^64 wraps is the model's choice (log 42). -/
def Obligations.KicksReadHostIndices : Prop :=
  (∀ (s : State) (value : BitVec 32), ∃ t, exec (.kick value) s = .next t ∧ t = { s with queues := t.queues }
    ∧ ∀ q : QueueId, t.queue q =
        if value.getLsbD q.val = true ∧ s.host.state = .attached ∧ (s.queue q).state = .active then
          { s.queue q with reading := true, reread := (s.queue q).reading || (s.queue q).reread }
        else s.queue q)
    ∧ (∀ (s : State) (r : HostRead), let block := s.host.cbaHi ++ s.host.cbaLo
    r ∈ hostReads s ↔
      (s.host.state = .attaching ∧ (r = { access := .controlBlock, address := block, length := 64 }
          ∨ r = { access := .controlBlock, address := block + 64#64, length := 16 }
          ∨ r = { access := .controlBlock, address := block + 272#64, length := 16 }))
        ∨ (∃ q : QueueId, (s.queue q).reading = true
          ∧ r = { access := .indexRead q, address := block + BitVec.ofNat 64 (288 + 8 * q.val), length := 4 })
        ∨ (s.unit.stage = .reading ∧ r =
            { access := .commandRecord, address := (s.queue cq).desc.base + BitVec.ofNat 64 (64 * (s.queue cq).device), length := 64 })
        ∨ (∃ l : LinkId, (s.fetcher l).stage = .reading ∧ r =
            { access := .sendRecord l, address := (s.queue (sq l)).desc.base + BitVec.ofNat 64 (96 * (s.queue (sq l)).device), length := 96 })
        ∨ ∃ tag c a, Accessing tag c a s
          ∧ ((∃ q : QueueId, c = .queueEnable q ∧ a = .descriptorRead
              ∧ r = { access := .commandBuffer, address := block + BitVec.ofNat 64 (64 + 16 * q.val), length := 16 })
            ∨ (∃ e args i, c = .cyclicSet e args ∧ a = .payloadRead i
              ∧ r = { access := .commandBuffer, address := args.address, length := args.length })
            ∨ ∃ e length address, c = .cyclicUpdate e length address ∧ a = .bufferRead
              ∧ r = { access := .commandBuffer, address := address, length := length }))
    ∧ ∀ (s : State) (q : QueueId) (b0 b1 b2 b3 : Byte), Consistent s → QueueSound (s.queue q) → (s.queue q).reading = true →
    let x := s.queue q
    let word := [b0, b1, b2, b3]
    let value := b0.toNat + 2 ^ 8 * b1.toNat + 2 ^ 16 * b2.toNat + 2 ^ 24 * b3.toNat
    let inSpan := ∃ k, k ≤ (x.device + x.desc.size - x.known) % x.desc.size ∧ value = (x.known + k) % x.desc.size
    let learned := s.modQueue q fun x => { x with known := value, reading := x.reread, reread := false }
    (value < x.desc.size → (q.val < 5 ∨ inSpan) →
        exec (.indexReadEnd q word) s = .next (if q = stq then serveCredits learned else learned))
      ∧ (s.host.state = .attached → x.state = .active → q ≠ stq → (x.desc.size ≤ value ∨ (5 ≤ q.val ∧ ¬inSpan)) →
        ∃ t, exec (.indexReadEnd q word) s = .next t ∧ QueueFaulted q .badIndex (s.modQueue q fun x => { x with reading := false }) t)
      ∧ (s.host.state = .attached → q = stq → (x.desc.size ≤ value ∨ ¬inSpan) → ∃ t, exec (.indexReadEnd q word) s = .next t
        ∧ DeviceFaulted (s.modQueue stq fun x => { x with reading := false }) t)

/-- Status credits (R131-R133). A request by the command unit or a send fetcher with a record available and no fetch held reserves one entry when
free space is above the reserved count and no waiter is ahead, and the fetch goes on, to its read or to its slot claim; otherwise the requester joins
the tail of the credit waiters. Whenever credits rise they are granted from the head, one each, for as long as credits remain: some first part of
the waiters goes on, the rest keeps its order, and either no one is left waiting or no credit is left. That a notice under write has taken its
entry when its write starts, so that it counts against the free space, is the model's choice (log 14). The command unit's read is of the 64 bytes of
the ring entry at the device index (R128, section 12.5); that its address wraps past 2^64 is the model's choice (log 42). -/
def Obligations.CreditsReserveOrWaitInTurn : Prop :=
  (∀ s : State, s.host.state = .attached →
    let free := (s.queue stq).desc.size - 1 - ((s.queue stq).device + (s.queue stq).desc.size - (s.queue stq).known) % (s.queue stq).desc.size
    let granted := free > s.status.reserved + s.status.noticeUnit ∧ s.status.waiters = []
    let reserving := { s with status := { s.status with reserved := s.status.reserved + 1 } }
    (QueueSound (s.queue cq) → s.unit.stage = .idle → (s.queue cq).state = .active → (s.queue cq).known ≠ (s.queue cq).device →
        (granted → ∃ t, exec (.creditRequest .commandUnit) s = .next t ∧ t = { reserving with unit := { s.unit with stage := .reading } }
            ∧ { access := .commandRecord, address := (s.queue cq).desc.base + BitVec.ofNat 64 (64 * (s.queue cq).device), length := 64 }
              ∈ hostReads t)
          ∧ (¬granted → exec (.creditRequest .commandUnit) s = .next { s with
              status := { s.status with waiters := s.status.waiters ++ [.commandUnit] }
              unit := { s.unit with stage := .credit } }))
      ∧ ∀ l : LinkId, QueueSound (s.queue (sq l)) → (s.fetcher l).stage = .none → (s.queue (sq l)).state = .active →
        (s.queue (sq l)).known ≠ (s.queue (sq l)).device →
        (granted → exec (.creditRequest (.fetcher l)) s = .next (reserving.modFetcher l fun f => { f with stage := .slot }))
          ∧ (¬granted → exec (.creditRequest (.fetcher l)) s = .next
              (State.modFetcher l (fun f => { f with stage := .credit }) { s with
                status := { s.status with waiters := s.status.waiters ++ [Requester.fetcher l] } })))
    ∧ ∀ s : State, let t := serveCredits s
    ∃ k, k ≤ s.status.waiters.length ∧ k ≤ s.credits
      ∧ t.status = { s.status with waiters := s.status.waiters.drop k, reserved := s.status.reserved + k }
      ∧ (s.status.waiters.drop k = [] ∨ t.credits = 0)
      ∧ t = { s with status := t.status, unit := t.unit, fetchers := t.fetchers }
      ∧ t.unit = (if Requester.commandUnit ∈ s.status.waiters.take k then { s.unit with stage := .reading } else s.unit)
      ∧ ∀ l : LinkId, t.fetcher l =
          if Requester.fetcher l ∈ s.status.waiters.take k then { s.fetcher l with stage := .slot } else s.fetcher l

/-! ## The frame store (chapter 3) -/

/-- A release (R40): the count of the slot falls by one; a slot that would reach 0 becomes FREE, or with a fetcher waiting passes at once to
the head of the wait list, which leaves the list holding the slot with count 1 as its claim (R43). No other slot, no frame and nothing else
changes. -/
def Obligations.ReleaseFreesOrPassesSlot : Prop :=
  ∀ (i : SlotId) (s : State), 0 < (s.slot i).count →
    let t := releaseSlot i s
    (∀ j, j ≠ i → t.slot j = s.slot j) ∧ (t.slot i).frame = (s.slot i).frame
      ∧ t = { s with store := t.store, fetchers := t.fetchers } ∧ t.store.reserve = s.store.reserve
      ∧ (((s.slot i).count > 1 ∨ s.store.waiters = []) →
          (t.slot i).count = (s.slot i).count - 1 ∧ t.store.waiters = s.store.waiters ∧ t.fetchers = s.fetchers)
      ∧ ∀ l rest, (s.slot i).count = 1 → s.store.waiters = l :: rest →
          (t.slot i).count = 1 ∧ t.store.waiters = rest ∧ t.fetcher l = { s.fetcher l with stage := .place, slot := some i }
            ∧ ∀ l', l' ≠ l → t.fetcher l' = s.fetcher l'

/-! ## Links (chapters 1 and 2) -/

/-- A quiet interval (R6, R12, R22, R27): the recessive run reaches its next multiple of 32 and the bus is followed and idle; a JOINING link
enters its target and posts LINK_STATE, an ONLINE link's deferral flag is cleared, an ISOLATED link counts a clean observation, and in LISTEN
and SUSPENDED the happening has no other effect. A stuck episode (R15) begins at the 256th dominant bit-time, with no frame under way and the bus
not idle, sets the stuck flag and posts LINK_STUCK; the first recessive bit-time clears it, posts LINK_FREED and leaves the bus not followed, both
notices under the STUCK bit; neither moves the score, mode or health. -/
def Obligations.QuietIntervalsAndStuckEpisodes : Prop :=
  (∀ (s : State) (l : LinkId), LinkSound (s.link l) → (s.link l).mode ≠ .offline → (s.link l).stuck = false →
    (s.link l).reception = none → (s.set l).inFlight = none →
    let k := s.link l
    let quiet := { k with recessiveRun := (k.recessiveRun / 32 + 1) * 32, dominantRun := 0, following := true, idleIn := 0 }
    (k.mode = .joining .online →
        exec (.quietInterval l) s = .next (withLink l { quiet with mode := .online } (stateNotice l k .online) s))
      ∧ (k.mode = .joining .listen →
        exec (.quietInterval l) s = .next (withLink l { quiet with mode := .listen } (stateNotice l k .listen) s))
      ∧ (k.mode = .online → exec (.quietInterval l) s = .next (withLink l { quiet with deferral := false } [] s))
      ∧ (k.mode = .isolated → exec (.quietInterval l) s = .next (observeClean l (withLink l quiet [] s)))
      ∧ (k.mode = .listen ∨ k.mode = .suspended → exec (.quietInterval l) s = .next (withLink l quiet [] s)))
    ∧ ∀ (s : State) (l : LinkId), let k := s.link l
    (k.mode ≠ .offline → k.stuck = false → k.reception = none → (s.set l).inFlight = none → (k.following = false ∨ 0 < k.idleIn) →
        exec (.stuckEpisodeStart l) s = .next (withLink l { k with stuck := true, dominantRun := 256, recessiveRun := 0 }
          (if k.config.reportMask.stuck = true then [.linkStuck l] else []) s))
      ∧ (k.stuck = true →
        exec (.stuckEpisodeEnd l) s = .next (withLink l
          { k with stuck := false, following := false, dominantRun := 0, recessiveRun := 1 }
          (if k.config.reportMask.stuck = true then [.linkFreed l] else []) s))

/-- Probation (R27, R28): a clean observation counts while probation is running and not otherwise; the sixty-fourth completes it, with
score 0 and health GOOD, in SUSPENDED under HOLD and ONLINE under AUTO and MANUAL, posting LINK_STATE and then LINK_HEALTH under their
bits. No other link and nothing else changes. -/
def Obligations.ProbationCountsToCompletion : Prop :=
  ∀ (s : State) (l : LinkId), LinkSound (s.link l) →
    let k := s.link l
    (k.probation = none → observeClean l s = s)
      ∧ (∀ n, k.probation = some n → n < 63 → observeClean l s = withLink l { k with probation := some (n + 1) } [] s)
      ∧ (k.probation = some 63 →
          let entered : Mode := if k.config.recoveryPolicy = .hold then .suspended else .online
          observeClean l s = withLink l { k with mode := entered, probation := none, score := 0, health := .good }
            (stateNotice l k entered ++ healthNotice l k 0) s)


/-- A score change taken in ONLINE (R23-R26, R12): health becomes the band of the new score with LINK_HEALTH on a change, leaving MUTED clears
the deferral flag, and a rise to 160 or more isolates the link: mode ISOLATED, deferral clear, probation started unless the policy is MANUAL,
LINK_STATE posted, and the pending entries kept under HOLD or ended ISOLATED under FLUSH. A change to the same score is none. -/
def Obligations.ScoreChangesSetHealthAndIsolate : Prop :=
  ∀ (s : State) (l : LinkId) (n : Nat), LinkSound (s.link l) → (s.link l).mode = .online →
    let k := s.link l
    let scored := { k with score := n, health := healthOf n, deferral := k.deferral && healthOf n == .muted }
    let isolated := { scored with
      mode := .isolated, deferral := false, probation := if k.config.recoveryPolicy = .manual then none else some 0 }
    (n = k.score → changeScore l n s = s)
      ∧ (n ≠ k.score → (n < k.score ∨ n < 160) → changeScore l n s = withLink l scored (healthNotice l k n) s)
      ∧ (k.score < n → 160 ≤ n → k.config.isolateAction = .hold →
          changeScore l n s = withLink l isolated (healthNotice l k n ++ stateNotice l k .isolated) s)
      ∧ (k.score < n → 160 ≤ n → k.config.isolateAction = .flush →
          changeScore l n s = clearPending l .isolated (withLink l isolated (healthNotice l k n ++ stateNotice l k .isolated) s))
      ∧ (healthOf n = if n ≤ 47 then .good else if n ≤ 95 then .caution else .muted)

/-- Receptions (R8, R13, R16, R23, R27, R35). One begins at a start mark on a followed bus that is not stuck, with no frame under way. It ends
where the samples since its opening end it, with their outcome: in JOINING, ONLINE, LISTEN and ISOLATED rx_intact or rx_error rises; in ONLINE
the score falls by 1 or rises by 2; in ISOLATED an INTACT end is a clean observation and an error sets a running probation to 0; in ONLINE and
LISTEN an INTACT frame, stamped with device time, waits for its slot. In SUSPENDED the outcome counts nowhere. The runs of recessive and dominant
bit-times (R6, R15) count the start mark at the beginning and every later sample at the end, and the bus is idle 3 recessive bit-times after an INTACT
end, and after an error at its tenth recessive bit-time, which is yet to come where a dominant run of 32 ended it (R5). A reception whose
opening holds no end ends as a reception of all its samples. That the row of a beginning stands for the moment at which the bit-times still to pass to
the idle bus of R5 have passed is the model's choice (log 6). -/
def Obligations.ReceptionsEndByMode : Prop :=
  (∀ (v b : Bool) (n : Nat) (line : Line), trailingRun v n [] = n
        ∧ trailingRun v n (line ++ [b]) = if b = v then trailingRun v n line + 1 else 0)
    ∧ (∀ opening : Line, (∀ m, m ≤ opening.length → receptionOutcome (opening.take m) = none) →
      ∀ line, receptionEnds opening line = receptionOutcome (opening ++ line))
    ∧ ∀ (s : State) (l : LinkId), let k := s.link l
    (k.mode ≠ .offline → k.following = true → k.stuck = false → k.reception = none → (s.set l).inFlight = none →
        exec (.receptionBegin l) s =
          .next (withLink l { k with reception := some [false], recessiveRun := 0, dominantRun := 1, idleIn := 0 } [] s))
      ∧ ∀ (opening line : Line) (outcome : ReceptionOutcome), k.reception = some opening →
        receptionEnds opening line = some outcome → k.mode ≠ .offline →
        let ended := { k with
          reception := none, recessiveRun := trailingRun true k.recessiveRun line, dominantRun := trailingRun false k.dominantRun line
          idleIn := match outcome with
            | .intact _ _ _ => 3
            | .error _ => if line.getLast? = some false then 10 else 0 }
        (k.mode = .suspended → exec (.receptionEnd l line) s = .next (withLink l ended [] s))
          ∧ (∀ key seq payload, outcome = .intact key seq payload →
            let frame : Frame :=
              { key := key, seq := seq, payload := payload, ingress := l, origin := .received, arrival := s.time }
            let counted := { ended with counters := { k.counters with rxIntact := k.counters.rxIntact + 1#32 } }
            ((∃ target, k.mode = .joining target) → exec (.receptionEnd l line) s = .next (withLink l counted [] s))
              ∧ (k.mode = .listen →
                exec (.receptionEnd l line) s = .next (withLink l { counted with toStore := k.toStore ++ [frame] } [] s))
              ∧ (k.mode = .isolated → exec (.receptionEnd l line) s = .next (observeClean l (withLink l counted [] s)))
              ∧ (k.mode = .online → exec (.receptionEnd l line) s =
                .next ((changeScore l (k.score - 1) (withLink l counted [] s)).modLink l
                  fun k => { k with toStore := k.toStore ++ [frame] })))
          ∧ (∀ kind, outcome = .error kind →
            let counted := { ended with counters := { k.counters with rxError := k.counters.rxError + 1#32 } }
            ((∃ target, k.mode = .joining target) ∨ k.mode = .listen →
                exec (.receptionEnd l line) s = .next (withLink l counted [] s))
              ∧ (k.mode = .isolated → exec (.receptionEnd l line) s =
                .next (withLink l { counted with probation := k.probation.map fun _ => 0 } [] s))
              ∧ (k.mode = .online → exec (.receptionEnd l line) s =
                .next (changeScore l (min (k.score + 2) 255) (withLink l counted [] s))))

/-- The wire (R1, R2, R4, R5, R7-R10). The line a sender drives for a frame of at most 64 payload bytes, its acknowledge slot driven or not, is received
INTACT as that frame and ends the attempt ACKED or UNACKED at its last bit-time and not before; the device acknowledges at the end of its stuffed
part exactly when ONLINE in GOOD or CAUTION, and no abort mark starts. A length of 65-127 is an error LENGTH at the last bit of the field, another
check an error CHECK at its last bit, a sixth equal recessive bit an error FORM; a dominant run, in the stuffed part or in the end delimiter, is
classified by its length, and a dominant bit of the delimiter that is no abort mark is FORM whatever the run (the model's choice: log 9). Outside
the key field and the acknowledge slot a sender that reads recessive for dominant has an error ECHO, its start mark included, and one that reads
dominant for recessive classifies the run; in the key field that is no attempt end. After an error of its own the device drives one mark of 12
dominant bit-times from the next bit-time on, after a short run from its first recessive bit on, but none for a dominant violation and none after
an abort mark or a run of 32; where a stuffing bit is due after the check the mark takes its place (log 28). The end is at the tenth recessive
bit-time, counted as log 8 has it, or the 32nd of a dominant run. The model's choices are also that payload bytes go by index, and that the stuffing
bit after the last key bit is not in the key field (log 7); that a sender drives its mark after any short run, one begun at a stuffing bit among them
(log 38); and that a receiver drives none where a run of 32 in the end delimiter ends the frame (log 39). -/
def Obligations.WireCarriesFramesIntact : Prop :=
  (∀ (key : Key) (seq : Seq) (payload : List Byte) (acked : Bool), payload.length ≤ 64 →
    let wire := stuff (frameBits key seq payload)
    let whole := wire ++ [!acked] ++ List.replicate 7 true
    let attempt := attemptOutcome key seq payload
    let mark := fun k : Link => k.senderAbortMark key seq payload
    (receptionOutcome whole = some (.intact key seq payload) ∧ attempt whole = some (if acked then .acked else .unacked)
        ∧ (∀ n, n < whole.length → receptionOutcome (whole.take n) = none ∧ attempt (whole.take n) = none)
        ∧ ∀ (k : Link) (n : Nat), n ≤ whole.length → k.receiverAbortMark (whole.take n) = [] ∧ mark k (whole.take n) = []
          ∧ (k.acknowledges (whole.take n) = true ↔ n = wire.length ∧ k.mode = .online ∧ k.health ≠ .muted))
      ∧ (∀ n, let read := wire.take n
        (trailingRun true 0 read = 5 → ErrorEnds receptionOutcome (.error .form) (read ++ [true]) ∧ ReceiverMarks (read ++ [true]))
          ∧ (trailingRun false 0 read = 5 → RunEnds receptionOutcome (.error .abortSeen) (.error .form) read
            ∧ ∀ (k : Link) (more : Line), k.receiverAbortMark (read ++ [false] ++ more) = [] ∧ k.acknowledges (read ++ [false] ++ more) = false))
      ∧ (∀ n, n < 7 → let read := wire ++ [!acked] ++ List.replicate n true
        RunEnds receptionOutcome (.error .abortSeen) (.error .form) read ∧ RunMarks Link.receiverAbortMark read)
      ∧ ∀ n, let read := whole.take n
        ((n = 0 ∨ (sentThrough (false :: msbBits 16 key.toNat)).length ≤ n) → n ≠ wire.length →
          (whole[n]? = some false → ErrorEnds attempt .echo (read ++ [true]) ∧ MarkStarts mark (read ++ [true]))
            ∧ (whole[n]? = some true → RunEnds attempt .abortSeen .echo read ∧ RunMarks mark read))
          ∧ (0 < n → n < (sentThrough (false :: msbBits 16 key.toNat)).length → whole[n]? = some true →
            ∀ more, attempt (read ++ [false] ++ more) = none))
    ∧ (∀ (key : Key) (seq : Seq) (n : Nat), 65 ≤ n → n ≤ 127 →
      let read := sentThrough (false :: (msbBits 16 key.toNat ++ msbBits 4 seq.toNat ++ msbBits 7 n))
      ErrorEnds receptionOutcome (.error .length) read ∧ ReceiverMarks read)
    ∧ ∀ (key : Key) (seq : Seq) (payload : List Byte) (check : BitVec 16), payload.length ≤ 64 →
      check ≠ checkOf (contentBits key seq payload) →
      let read := sentThrough (false :: (contentBits key seq payload ++ msbBits 16 check.toNat))
      ErrorEnds receptionOutcome (.error .check) read ∧ ReceiverMarks read

/-- Contention (R5, R96, R101, R102). At an opportunity the head of the set goes in flight and nothing else does. Contention is lost at the first
bit-time of the key field at which the device sent recessive and read dominant, whatever it read where it sent dominant (log 9); the field ends with
the last key bit (log 7). That opens a reception with the bits received so far, moves no score and no counter, and the entry is dropped if orphaned,
ended CANCELLED if a cancellation was requested, ended EXPIRED if its deadline is reached, and otherwise returned with its admission number,
attempts and budget. Where the bits received already hold the end of an error, the reception ends with that error when the bus is next idle, or at the
32nd dominant bit-time: that is the model's choice (log 44). That the row of an opportunity stands for the moment at which the bit-times still to pass to the idle bus have passed, and
counts them as recessive, is the model's choice (log 6). -/
def Obligations.ContentionTakesAndReturnsHead : Prop :=
  (∀ (s : State) (l : LinkId) (e : Entry) (rest : List Entry), (s.set l).pending = e :: rest → (s.link l).mode = .online →
      (s.link l).deferral = false → (s.link l).following = true → (s.link l).stuck = false → (s.link l).reception = none →
      (s.set l).inFlight = none →
      exec (.contentionOpportunity l) s = .next (withLink l { s.link l with
          recessiveRun := (s.link l).recessiveRun + (s.link l).idleIn, dominantRun := 0, idleIn := 0 } []
        (s.modSet l fun x => { x with pending := rest, inFlight := some e })))
    ∧ (∀ (key : Key) (seq : Seq) (payload : List Byte) (got : Line), let sent := sentLine key seq payload
      (losesContention key seq payload got = true ↔ ∃ n, 0 < n ∧ n < (sentThrough (false :: msbBits 16 key.toNat)).length
          ∧ got.length = n + 1 ∧ got[0]? = some false ∧ sent[n]? = some true ∧ got[n]? = some false
          ∧ ∀ m, 0 < m → m < n → sent[m]? = some true → got[m]? = some true)
        ∧ (losesContention key seq payload got = true → ∀ m kind, receptionOutcome (got.take m) = some (.error kind) →
          ∀ n, let held := List.replicate n false
          (trailingRun false 0 (got ++ held) < 32 → receptionEnds got (held ++ List.replicate 10 true) = some (.error kind))
            ∧ (trailingRun false 0 (got ++ held) = 32 → receptionEnds got held = some (.error kind))))
    ∧ ∀ (s : State) (l : LinkId) (e : Entry) (opening : Line), (s.set l).inFlight = some e →
      losesContention e.key e.seq (s.slot e.slot).frame.payload opening = true →
      let opened := (withLink l { s.link l with
          reception := some opening, recessiveRun := 0, dominantRun := trailingRun false 0 opening, idleIn := 0 } [] s).modSet l
        fun x => { x with inFlight := none }
      (e.orphaned = true → exec (.contentionLost l opening) s = .next (passPlace l (releaseSlot e.slot opened)))
        ∧ (e.orphaned = false → e.cancelRequested = true →
          exec (.contentionLost l opening) s = .next (endEntry l e .cancelled opened))
        ∧ (e.orphaned = false → e.cancelRequested = false → (∃ t, e.deadline = some t ∧ (s.time - t).toNat < 2 ^ 31) →
          exec (.contentionLost l opening) s = .next (endEntry l e .expired opened))
        ∧ (e.orphaned = false → e.cancelRequested = false → (∀ t, e.deadline = some t → 2 ^ 31 ≤ (s.time - t).toNat) →
          exec (.contentionLost l opening) s = .next (opened.modSet l fun x => { x with pending := insertEntry e x.pending }))

/-! ## Attempts and the end of entries (chapter 7) -/

/-- The attempt end (R10, R12, R23, R54, R103-R105, R113): tx_acked or tx_failed_attempts rises in any mode; in ONLINE the score moves by -2, +3
(0 in MUTED) or +6; the entry leaves the bus with one attempt more and is disposed of by the first case that applies: orphaned, SENT with a
LOOPBACK slot joining the input list, CANCELLED, EXPIRED, ISOLATED under FLUSH, returned with one unit of budget less, or FAILED with this
end's kind; and an ONLINE link then MUTED sets its deferral flag. The runs of recessive and dominant bit-times count every sample (R6, R15), and the
bus is idle 3 recessive bit-times after an end without error, and after an error at its tenth recessive bit-time (R5). -/
def Obligations.AttemptEndsScoreAndDispose : Prop :=
  ∀ (s : State) (l : LinkId) (e : Entry) (line : Line) (outcome : AttemptOutcome), (s.set l).inFlight = some e →
    attemptOutcome e.key e.seq (s.slot e.slot).frame.payload line = some outcome →
    let k := s.link l
    let counters := if outcome = .acked then { k.counters with txAcked := k.counters.txAcked + 1#32 }
      else { k.counters with txFailedAttempts := k.counters.txFailedAttempts + 1#32 }
    let counted := withLink l { k with
        counters := counters
        recessiveRun := trailingRun true k.recessiveRun line, dominantRun := trailingRun false k.dominantRun line
        idleIn := if outcome = .acked ∨ outcome = .unacked then 3 else if line.getLast? = some false then 10 else 0 } [] s
    let score := match outcome with
      | .acked => k.score - 2
      | .unacked => if k.health = .muted then k.score else min (k.score + 3) 255
      | .echo => min (k.score + 6) 255
      | .abortSeen => min (k.score + 6) 255
    let passed := if k.mode = .online then changeScore l score counted else counted
    let landed := passed.modSet l fun x => { x with inFlight := none }
    let e' := { e with attempts := e.attempts + 1 }
    let expired := ∃ t, e.deadline = some t ∧ (s.time - t).toNat < 2 ^ 31
    let flushed := (passed.link l).mode = .isolated ∧ k.config.isolateAction = .flush
    let answers := fun d : State => exec (.attemptEnd l line) s =
      .next (d.modLink l fun k => if k.mode = .online ∧ k.health = .muted then { k with deferral := true } else k)
    (e.orphaned = true → outcome = .acked → e.loopback = true → answers (passPlace l (loopbackAppend l e.slot landed)))
      ∧ (e.orphaned = true → ¬(outcome = .acked ∧ e.loopback = true) → answers (passPlace l (releaseSlot e.slot landed)))
      ∧ (e.orphaned = false →
        (outcome = .acked → e.loopback = false → answers (endEntry l e' .sent landed))
          ∧ (outcome = .acked → e.loopback = true → answers (handEnd l e' .sent (passPlace l (loopbackAppend l e.slot landed))))
          ∧ (outcome ≠ .acked → e.cancelRequested = true → answers (endEntry l e' .cancelled landed))
          ∧ (outcome ≠ .acked → e.cancelRequested = false → expired → answers (endEntry l e' .expired landed))
          ∧ (outcome ≠ .acked → e.cancelRequested = false → ¬expired → flushed → answers (endEntry l e' .isolated landed))
          ∧ (outcome ≠ .acked → e.cancelRequested = false → ¬expired → ¬flushed → 0 < e.budget →
            answers (landed.modSet l fun x => { x with pending := insertEntry { e' with budget := e.budget - 1 } x.pending }))
          ∧ (outcome ≠ .acked → e.cancelRequested = false → ¬expired → ¬flushed → e.budget = 0 →
            answers (endEntry l e' (match outcome with
              | .acked => .sent | .unacked => .failedUnacked | .echo => .failedEcho | .abortSeen => .failedAbortSeen) landed)))

/-- The end of an entry (R40, R97, R104, R106, R113): its slot reference is released, its place passes to the waiting fetcher if there is
one, and its end is handed on by origin: a HOST entry's completion while the device is ATTACHED, none if orphaned, and for a SILENT one ended
SENT its credit returned instead; a FORWARD entry counts in forward_drop_down exactly when CANCELLED, FLUSHED, LINK_DOWN or ISOLATED; a
CYCLIC copy's end goes to its schedule entry. Nothing else changes. -/
def Obligations.EntriesEndByOriginAndOutcome : Prop :=
  ∀ (s : State) (l : LinkId) (e : Entry) (outcome : SendOutcome),
    let t := endEntry l e outcome s
    let r := releaseSlot e.slot s
    let freed := if (s.set l).waiting = true then
        State.modFetcher l (fun f => { f with stage := .reading })
          (r.modSet l fun x => { x with waiting := false, reserved := true })
      else r
    let drops := outcome = .cancelled ∨ outcome = .flushed ∨ outcome = .linkDown ∨ outcome = .isolated
    (∀ tag silent loopback, e.origin = .host tag silent loopback false → ¬(silent = true ∧ outcome = .sent) →
        t = if s.host.state = .attached then
            { freed with status := { s.status with
                completions := s.status.completions ++ [.sendDone l tag outcome e.attempts s.time] } }
          else freed)
      ∧ (∀ tag loopback, e.origin = .host tag true loopback false → outcome = .sent →
        t = serveCredits { freed with status := { s.status with reserved := s.status.reserved - 1 } })
      ∧ (∀ tag silent loopback, e.origin = .host tag silent loopback true → t = freed)
      ∧ (∀ ingress, e.origin = .forward ingress →
        (¬drops → t = freed)
          ∧ (drops → t = freed.modLink l fun k =>
              { k with counters := { k.counters with forwardDropDown := k.counters.forwardDropDown + 1#32 } }))
      ∧ ∀ i, e.origin = .cyclic i → t = freed.modEntry i fun x => { x with inbox := x.inbox ++ [.ended (match outcome with
          | .sent => .sent
          | .failedUnacked | .failedEcho | .failedAbortSeen => .failed
          | .expired => .expired
          | _ => .dropped)] }

/-- Clearing a set, at a flush, at entry to OFFLINE and at isolation under FLUSH (R106, R109, R111, R112): no entry is pending any more, the
entry in flight stays, live HOST entries hand their completions in set order while the device is ATTACHED, every FORWARD entry counts once in
forward_drop_down, and every copy's end DROPPED goes to its schedule entry. A reserved place is kept, and a record handed for admission with it; the
first place freed passes to the fetcher that waits for one, whose read then starts (R97). -/
def Obligations.ClearedSetsEndInSetOrder : Prop :=
  ∀ (s : State) (l : LinkId) (outcome : SendOutcome), outcome = .flushed ∨ outcome = .linkDown ∨ outcome = .isolated →
    let t := clearPending l outcome s
    let gone := (s.set l).pending
    (t.set l).pending = [] ∧ (t.set l).inFlight = (s.set l).inFlight ∧ (t.set l).counter = (s.set l).counter
      ∧ (∀ l', l' ≠ l → t.set l' = s.set l' ∧ t.link l' = s.link l')
      ∧ t.status = { s.status with completions := s.status.completions ++
          if s.host.state = .attached then gone.filterMap (fun e => match e.origin with
            | .host tag _ _ false => some (.sendDone l tag outcome e.attempts s.time)
            | _ => none)
          else [] }
      ∧ t.link l = { s.link l with counters := { (s.link l).counters with
          forwardDropDown := (s.link l).counters.forwardDropDown + BitVec.ofNat 32 (countOrigins gone).2.1 } }
      ∧ (∀ i : ScheduleId, t.entry i = { s.entry i with
          inbox := (s.entry i).inbox ++ List.replicate (gone.countP (Entry.isCopyOf i)) (.ended .dropped) })
      ∧ (gone = [] ∨ (s.set l).waiting = false → (t.set l).waiting = (s.set l).waiting ∧ (t.set l).reserved = (s.set l).reserved)
      ∧ (gone ≠ [] → (s.set l).waiting = true →
          (t.set l).waiting = false ∧ (t.set l).reserved = true ∧ (Consistent s → (t.fetcher l).stage = .reading))
      ∧ (∀ l', (t.fetcher l').admission = (s.fetcher l').admission)
      ∧ t.time = s.time ∧ t.host = s.host ∧ t.queues = s.queues ∧ t.delivery = s.delivery ∧ t.unit = s.unit ∧ t.routing = s.routing
      ∧ t.twin = s.twin ∧ t.mailboxes = s.mailboxes ∧ t.notices = s.notices ∧ t.posted = s.posted

/-- HOST admissions and places (R97, R98). A place is granted below occupancy 48, and the read starts; at 48 the fetcher waits. A checked record
is completed LINK_DOWN on an OFFLINE link and ISOLATED on one isolated under FLUSH, with attempts 0, its slot and place released; in every other
mode the reserved place becomes an entry with the record's fields, a deadline from the slot's arrival time, and the next admission number. The read
started with the place is of the 96 bytes of the ring entry at the device index (R128, section 12.2); that its address wraps past 2^64 is the model's
choice (log 42). -/
def Obligations.PlacesAndHostAdmissions : Prop :=
  (∀ (s : State) (l : LinkId), (s.fetcher l).stage = .place → (s.fetcher l).admission = none → (s.set l).waiting = false →
      (s.set l).reserved = false →
      let occupancy := (s.set l).pending.length + if (s.set l).inFlight = none then 0 else 1
      (occupancy < 48 → ∃ t, exec (.placeRequest l) s = .next t
          ∧ t = State.modFetcher l (fun f => { f with stage := .reading }) (s.modSet l fun x => { x with reserved := true })
          ∧ { access := .sendRecord l, address := (s.queue (sq l)).desc.base + BitVec.ofNat 64 (96 * (s.queue (sq l)).device), length := 96 }
            ∈ hostReads t)
        ∧ (48 ≤ occupancy → exec (.placeRequest l) s = .next (s.modSet l fun x => { x with waiting := true })))
    ∧ ∀ (s : State) (l : LinkId) (a : HostAdmission), (s.fetcher l).admission = some a → (s.set l).waiting = false →
      let k := s.link l
      let taken := s.modFetcher l fun f => { f with admission := none }
      let completed := fun outcome => let r := (releaseSlot a.slot taken).modSet l fun x => { x with reserved := false }
        if s.host.state = .attached then
          { r with status := { s.status with completions := s.status.completions ++ [.sendDone l a.tag outcome 0 s.time] } }
        else r
      (k.mode = .offline → exec (.hostAdmission l) s = .next (completed .linkDown))
        ∧ (k.mode = .isolated → k.config.isolateAction = .flush → exec (.hostAdmission l) s = .next (completed .isolated))
        ∧ (k.mode ≠ .offline → ¬(k.mode = .isolated ∧ k.config.isolateAction = .flush) →
          exec (.hostAdmission l) s = .next (taken.modSet l fun x => { x with
            reserved := false, counter := x.counter + 1#48
            pending := insertEntry
              { slot := a.slot, key := a.key, seq := a.seq, origin := .host a.tag a.silent a.loopback false, budget := a.budget,
                deadline := if a.lifetime = 0 then none
                  else some ((s.slot a.slot).frame.arrival + BitVec.ofNat 32 a.lifetime),
                attempts := 0, cancelRequested := false, admission := x.counter } x.pending }))

/-- FORWARD admission (R58, R65, R99): the next link hand-over of a classification in dispatch is answered. It is refused and counted in
forward_drop_down of the destination while that link is OFFLINE or isolated under FLUSH, refused and counted in forward_drop_full at occupancy
48, and otherwise accepted with a reference of its own, the key of the hand-over, the frame's sequence and ingress link, the destination's
forward_retries, and a deadline of its forward_lifetime from the classification time. -/
def Obligations.ForwardAdmissionsFollowDestination : Prop :=
  ∀ (s : State) (c : Classification) (l : LinkId) (key : Key) (rest : List (LinkId × Key)), s.routing.classification = some c →
    c.stage = .dispatch → c.outLinks = (l, key) :: rest →
    let k := s.link l
    let f := (s.slot c.entry).frame
    let answered := { s with routing := { s.routing with classification := some { c with outLinks := rest } } }
    let down := k.mode = .offline ∨ (k.mode = .isolated ∧ k.config.isolateAction = .flush)
    let full := 48 ≤ (s.set l).pending.length + (if (s.set l).inFlight = none then 0 else 1) + if (s.set l).reserved = true then 1 else 0
    (down → exec (.forwardAdmission l) s = .next (withLink l
        { k with counters := { k.counters with forwardDropDown := k.counters.forwardDropDown + 1#32 } } [] answered))
      ∧ (¬down → full → exec (.forwardAdmission l) s = .next (withLink l
        { k with counters := { k.counters with forwardDropFull := k.counters.forwardDropFull + 1#32 } } [] answered))
      ∧ (¬down → ¬full → exec (.forwardAdmission l) s = .next (State.modSet l (fun x => { x with
          counter := x.counter + 1#48
          pending := insertEntry
            { slot := c.entry, key := key, seq := f.seq, origin := .forward f.ingress, budget := k.config.forwardRetries,
              deadline := if k.config.forwardLifetime = 0 then none else some (c.time + BitVec.ofNat 32 k.config.forwardLifetime),
              attempts := 0, cancelRequested := false, admission := x.counter } x.pending })
          (answered.modSlot c.entry fun x => { x with count := x.count + 1 })))

/-- An emission request is answered by the first case of R100 that applies: SKIPPED, with the request's reference released, on a link not
ONLINE, with the entry's copy in flight, with it pending under SKIP, and at occupancy 48; REPLACED under REPLACE, the old copy leaving without
an outcome and its place going to the new one; ADMITTED otherwise. A new copy takes over the reference and expires a period after the
emission. -/
def Obligations.EmissionRequestsAnsweredByFirstCase : Prop :=
  ∀ (s : State) (e : ScheduleId) (r : EmissionRequest) (rest : List EmissionRequest), (s.entry e).requests = r :: rest →
    let l := (s.entry e).link
    let x := s.set l
    let taken := s.modEntry e fun x => { x with requests := rest }
    let answered := fun (a : EmissionAnswer) (t : State) => t.modEntry e fun x => { x with inbox := x.inbox ++ [.answer a] }
    let skipped := Host.Outcome.next (answered .skipped (releaseSlot r.slot taken))
    let copy := fun (y : EgressSet) => { y with
      counter := y.counter + 1#48
      pending := insertEntry
        { slot := r.slot, key := r.key, seq := r.seq, origin := .cyclic e, budget := r.budget,
          deadline := some (r.time + BitVec.ofNat 32 (r.period * 100)), attempts := 0, cancelRequested := false,
          admission := y.counter } y.pending }
    let inFlight := ∃ y, x.inFlight = some y ∧ y.origin = .cyclic e
    let full := 48 ≤ x.pending.length + (if x.inFlight = none then 0 else 1) + if x.reserved = true then 1 else 0
    ((s.link l).mode ≠ .online → exec (.emissionRequest e) s = skipped)
      ∧ ((s.link l).mode = .online →
        (inFlight → exec (.emissionRequest e) s = skipped)
          ∧ (¬inFlight →
            (∀ old before after, x.pending = before ++ old :: after → old.origin = .cyclic e → (∀ y ∈ before, y.origin ≠ .cyclic e) →
                (r.policy = .skip → exec (.emissionRequest e) s = skipped)
                  ∧ (r.policy = .replace → exec (.emissionRequest e) s = .next (answered .replaced
                    ((releaseSlot old.slot (taken.modSet l fun y => { y with pending := before ++ after })).modSet l copy))))
              ∧ ((∀ y ∈ x.pending, y.origin ≠ .cyclic e) →
                (full → exec (.emissionRequest e) s = skipped)
                  ∧ (¬full → exec (.emissionRequest e) s = .next (answered .admitted (taken.modSet l copy))))))

/-- Deadlines, cancellation and flushing (R107-R109, R152). A pending entry whose deadline is reached ends EXPIRED in any mode. SEND_CANCEL acts on
the live, unmarked HOST entry of its tag with the lowest admission number: pending, it ends CANCELLED with result OK; in flight, it is marked
with result IN_FLIGHT; with none the result is NOT_FOUND; word 0 is its attempts. EGRESS_FLUSH ends every pending entry FLUSHED, marks an entry
in flight, and reports the numbers of each origin and whether one was marked. -/
def Obligations.ExpiryCancelAndFlush : Prop :=
  (∀ (s : State) (l : LinkId) (e : Entry) (t : Time), (s.set l).pending.Pairwise (fun a b => a.admission ≠ b.admission) →
      e ∈ (s.set l).pending → e.deadline = some t → (s.time - t).toNat < 2 ^ 31 →
      exec (.deadlineExpiry l e.admission) s =
        .next (endEntry l e .expired (s.modSet l fun x => { x with pending := x.pending.erase e })))
    ∧ (∀ (s : State) (l : LinkId) (tag request : BitVec 32), Handed tag (.sendCancel l request) s →
      let c := Command.sendCancel l request
      let all := (s.set l).inFlight.toList ++ (s.set l).pending
      let found := fun e : Entry => ∃ silent loopback, e.origin = .host request silent loopback false ∧ e.cancelRequested = false
      all.Pairwise (fun a b => a.admission ≠ b.admission) →
      ((∀ e ∈ all, ¬found e) → exec (.sendCancel l request) s = .next (commandDone tag c .notFound 0#64 0#64 s))
        ∧ ∀ e ∈ all, found e → (∀ e' ∈ all, found e' → e.admission ≤ e'.admission) →
          ((s.set l).inFlight = some e → exec (.sendCancel l request) s =
              .next (commandDone tag c .inFlight (BitVec.ofNat 64 e.attempts) 0#64
                (s.modSet l fun x => { x with inFlight := some { e with cancelRequested := true } })))
            ∧ (e ∈ (s.set l).pending → exec (.sendCancel l request) s =
              .next (commandDone tag c .ok (BitVec.ofNat 64 e.attempts) 0#64
                (endEntry l e .cancelled (s.modSet l fun x => { x with pending := x.pending.erase e })))))
    ∧ ∀ (s : State) (l : LinkId) (tag : BitVec 32), Handed tag (.egressFlush l) s →
      let n := countOrigins (s.set l).pending
      exec (.egressFlush l) s = .next (commandDone tag (.egressFlush l) .ok
        (BitVec.ofNat 64 (n.1 + 2 ^ 8 * n.2.1 + 2 ^ 16 * n.2.2 + 2 ^ 24 * if (s.set l).inFlight = none then 0 else 1)) 0#64
        ((clearPending l .flushed s).modSet l
          fun x => { x with inFlight := x.inFlight.map fun e => { e with cancelRequested := true } }))

/-! ## Grants, the input list and the routing engine (chapters 3 and 4) -/

/-- Whenever the store grants a FREE slot to a request of R42, R43 or R44 it grants the lowest-numbered FREE slot, which becomes HELD with count 1,
and the free count falls by one (R41): a reception with the free count above the host reserve, a send fetch, a CYCLIC_SET, with a payload to read or
without, and a CYCLIC_UPDATE that needs a new slot. That the last two are granted and set within the command's own happening when there is no
payload to read is the model's choice (log 20). -/
def Obligations.StoreGrantsLowestFreeSlot : Prop :=
  (∀ (s : State) (i : SlotId) (x : Slot), LowestFree i s → x.count = 1 →
      (s.modSlot i fun _ => x).store.freeCount + 1 = s.store.freeCount)
    ∧ ∀ (s : State) (i : SlotId), LowestFree i s →
      (∀ l frame rest, (s.link l).toStore = frame :: rest → s.store.reserve < s.store.freeCount →
          exec (.receptionSlotRequest l) s = .next
            ((withLink l { s.link l with toStore := rest, toInput := (s.link l).toInput ++ [i] } [] s).modSlot i
              fun _ => { count := 1, frame := frame }))
        ∧ (∀ l, (s.fetcher l).stage = .slot → l ∉ s.store.waiters →
          exec (.sendFetchSlotRequest l) s = .next (State.modFetcher l (fun f => { f with stage := .place, slot := some i })
            (s.modSlot i fun x => { x with count := 1 })))
        ∧ (∀ tag e args, Handed tag (.cyclicSet e args) s →
          (s.entry e).state = .empty ∨ ((s.entry e).state = .idle ∧ (s.entry e).outstanding = false ∧ (s.entry e).unanswered = 0) →
          (0 < args.length → exec (.cyclicSet e args) s = .next (commandAccessing tag (.cyclicSet e args) (.payloadRead i)
              (s.modSlot i fun x => { x with count := 1 })))
            ∧ (args.length = 0 → (s.entry e).template ≠ some i →
              ∃ t, exec (.cyclicSet e args) s = .next t ∧ (t.entry e).template = some i ∧ (t.slot i).count = 1
                ∧ ((s.entry e).template = none → t.store.freeCount + 1 = s.store.freeCount)))
        ∧ ∀ tag e length address payload old r, (s.entry e).template = some old → 2 ≤ (s.slot old).count →
          (Handed tag (.cyclicUpdate e length address) s ∧ length = 0 ∧ (s.entry e).state ≠ .empty
              ∧ r = exec (.cyclicUpdate e length address) s)
            ∨ (Accessing tag (.cyclicUpdate e length address) .bufferRead s ∧ s.host.state ≠ .detaching ∧ payload.length = length
              ∧ r = exec (.cyclicUpdateApply payload) s) →
          ∃ t, r = .next t ∧ (t.entry e).template = some i ∧ (t.slot i).count = 1 ∧ t.store.freeCount + 1 = s.store.freeCount

/-- A reception is refused a slot, and counted in drop_no_slot, while the free count is not above the host reserve (R42); a send fetch with
no FREE slot joins the tail of the wait list and stays where it is (R43). STORE_RESERVE reports the reserve before and the free count, and
sets the reserve (R46). -/
def Obligations.StoreRefusalsWaitsAndReserve : Prop :=
  (∀ (s : State) (l : LinkId) (frame : Frame) (rest : List Frame), (s.link l).toStore = frame :: rest →
      s.store.freeCount ≤ s.store.reserve → exec (.receptionSlotRequest l) s = .next (withLink l { s.link l with
        toStore := rest
        counters := { (s.link l).counters with dropNoSlot := (s.link l).counters.dropNoSlot + 1#32 } } [] s))
    ∧ (∀ (s : State) (l : LinkId), (s.fetcher l).stage = .slot → l ∉ s.store.waiters → (∀ i : SlotId, (s.slot i).count ≠ 0) →
      exec (.sendFetchSlotRequest l) s = .next { s with store := { s.store with waiters := s.store.waiters ++ [l] } })
    ∧ ∀ (s : State) (tag : BitVec 32) (n : Nat), Handed tag (.storeReserve n) s →
      exec (.storeReserve n) s = .next (commandDone tag (.storeReserve n) .ok
        (BitVec.ofNat 64 (s.store.reserve + 2 ^ 16 * s.store.freeCount)) 0#64 { s with store := { s.store with reserve := n } })

/-- The input list takes an append at its tail below 16 entries, and refuses it at 16, when the slot is released and drop_input_full of the
frame's link rises (R16, R53). A loopback append keeps its slot, whose origin becomes LOOPBACK and whose arrival time becomes device time, and
is refused and counted in the same way (R45, R54). An entry leaves when its classification ends, once every hand-over is answered (R64): its
reference is released and the record is discarded. -/
def Obligations.InputListAppendsAndEnds : Prop :=
  ((∀ (s : State) (l : LinkId) (i : SlotId) (rest : List SlotId), (s.link l).toInput = i :: rest →
      let placed := withLink l { s.link l with toInput := rest } [] s
      (s.routing.input.length < 16 →
          exec (.inputListAppend l) s = .next { placed with routing := { s.routing with input := s.routing.input ++ [i] } })
        ∧ (16 ≤ s.routing.input.length → exec (.inputListAppend l) s = .next (withLink l { s.link l with
            toInput := rest
            counters := { (s.link l).counters with dropInputFull := (s.link l).counters.dropInputFull + 1#32 } } []
          (releaseSlot i placed))))
    ∧ ∀ (s : State) (l : LinkId) (i : SlotId), let t := loopbackAppend l i s
      (s.routing.input.length < 16 → t.routing = { s.routing with input := s.routing.input ++ [i] } ∧ t.links = s.links
          ∧ t.slot i = { s.slot i with frame := { (s.slot i).frame with origin := .loopback, arrival := s.time } }
          ∧ (∀ j, j ≠ i → t.slot j = s.slot j) ∧ t = { s with routing := t.routing, store := t.store } ∧ t.store.waiters = s.store.waiters
          ∧ t.store.reserve = s.store.reserve)
        ∧ (16 ≤ s.routing.input.length → t = withLink l { s.link l with
            counters := { (s.link l).counters with dropInputFull := (s.link l).counters.dropInputFull + 1#32 } } [] (releaseSlot i s)))
    ∧ ∀ (s : State) (c : Classification) (before after : List SlotId), s.routing.classification = some c → c.stage = .dispatch →
    c.outLinks = [] → c.outQueues = [] → c.outMailboxes = [] → s.routing.input = before ++ c.entry :: after → c.entry ∉ before →
    exec .classificationEnd s = .next (releaseSlot c.entry
      { s with routing := { s.routing with input := before ++ after, classification := none } })

/-- The walk of a bank (R56-R60, R63): what it gathers comes from the rules it matches below the bank's count, none after one with CONTINUE
clear. The first rule index is the first match's; a link or queue is a destination exactly when a matched rule names it, with the rewrite or own
key, or the tag, of the first that does; the mailboxes are the first four distinct ones in the order in which the rules matched; the twin group
is that of the first matched rule with TWIN. -/
def Obligations.WalkGathersFromMatchedRules : Prop :=
  ∀ (b : Bank) (f : Frame), let w := b.walk f
    (∀ i, w.first = some i ↔ WalkMatches b f i ∧ ∀ j, j < i → ¬RuleApplies b f j)
      ∧ (∀ l key, (l, key) ∈ w.links ↔ ∃ i, WalkMatches b f i ∧ b.rules[i.val].links.getLsbD l.val = true
          ∧ (∀ j, j < i → WalkMatches b f j → b.rules[j.val].links.getLsbD l.val = false)
          ∧ key = b.rules[i.val].rewriteKey.getD f.key)
      ∧ (∀ d tag, (d, tag) ∈ w.queues ↔ ∃ i, WalkMatches b f i ∧ b.rules[i.val].delivery.getLsbD d.val = true
          ∧ (∀ j, j < i → WalkMatches b f j → b.rules[j.val].delivery.getLsbD d.val = false) ∧ tag = b.rules[i.val].tag)
      ∧ w.mailboxes.Nodup ∧ w.mailboxes.length ≤ 4
      ∧ (∀ m ∈ w.mailboxes, ∃ i, WalkMatches b f i ∧ b.rules[i.val].mailbox = some m)
      ∧ w.mailboxes.Pairwise (fun m m' => ∃ i, WalkMatches b f i ∧ b.rules[i.val].mailbox = some m
          ∧ ∀ j, WalkMatches b f j → b.rules[j.val].mailbox = some m' → i < j)
      ∧ (∀ i m, WalkMatches b f i → b.rules[i.val].mailbox = some m → m ∈ w.mailboxes ∨ (w.mailboxes.length = 4
          ∧ ∀ m' ∈ w.mailboxes, ∃ j, j < i ∧ WalkMatches b f j ∧ b.rules[j.val].mailbox = some m'))
      ∧ (∀ g, w.twin = some g ↔ ∃ i, WalkMatches b f i ∧ b.rules[i.val].twin = some g
          ∧ ∀ j, j < i → WalkMatches b f j → b.rules[j.val].twin = none)

/-- Taking a classification (R55, R61-R64, R68): the oldest entry is evaluated against the active bank, stamped with device time. A frame that
matched goes to its links without its own, its queues and its mailboxes, in the order of R64: dropped whole and counted in drop_by_rule if
there is none, to the twin check if a twin group was given and it was RECEIVED, and otherwise to dispatch. A frame that matched nothing goes to
its ingress link's unmatched queue with tag 0, or is dropped whole and counted in drop_unmatched. The entry stays in the list. -/
def Obligations.ClassificationTakesOldestEntry : Prop :=
  ∀ (s : State) (entry : SlotId) (rest : List SlotId), s.routing.classification = none → s.routing.input = entry :: rest →
    let f := (s.slot entry).frame
    let w := s.routing.activeBank.walk f
    let k := s.link f.ingress
    ∃ t c, exec .classification s = .next t ∧ t.routing = { s.routing with classification := some c } ∧ c.entry = entry
      ∧ c.time = s.time ∧ c.firstRule = w.first ∧ t = { s with routing := t.routing, links := t.links }
      ∧ (∀ l, l ≠ f.ingress → t.link l = s.link l)
      ∧ (w.first ≠ none →
          c.links.Pairwise (fun a b => a.1 < b.1) ∧ (∀ p, p ∈ c.links ↔ p ∈ w.links ∧ p.1 ≠ f.ingress)
            ∧ c.queues.Pairwise (fun a b => a.1 < b.1) ∧ (∀ p, p ∈ c.queues ↔ p ∈ w.queues)
            ∧ c.mailboxes = w.mailboxes ∧ c.twinGroup = w.twin
            ∧ (c.links = [] → c.queues = [] → c.mailboxes = [] →
                c.stage = .dispatch ∧ c.outLinks = [] ∧ c.outQueues = [] ∧ c.outMailboxes = []
                  ∧ t.link f.ingress = { k with counters := { k.counters with dropByRule := k.counters.dropByRule + 1#32 } })
            ∧ (¬(c.links = [] ∧ c.queues = [] ∧ c.mailboxes = []) →
                t.links = s.links
                  ∧ (w.twin ≠ none → f.origin = .received → c.stage = .twinWait)
                  ∧ (w.twin = none ∨ f.origin ≠ .received →
                    c.stage = .dispatch ∧ c.outLinks = c.links ∧ c.outQueues = c.queues ∧ c.outMailboxes = c.mailboxes)))
      ∧ (w.first = none →
          c.links = [] ∧ c.mailboxes = [] ∧ c.twinGroup = none ∧ c.stage = .dispatch ∧ c.outLinks = [] ∧ c.outMailboxes = []
            ∧ (∀ d, k.config.unmatchedQueue = some d → c.queues = [(d, 0#16)] ∧ c.outQueues = [(d, 0#16)] ∧ t.links = s.links)
            ∧ (k.config.unmatchedQueue = none → c.queues = [] ∧ c.outQueues = []
              ∧ t.link f.ingress = { k with counters := { k.counters with dropUnmatched := k.counters.dropUnmatched + 1#32 } }))


/-- RULE_WRITE (R69) replaces one rule of the staging bank and completes OK; TABLE_SWAP (R72) makes the staging bank active with its rules and
count, the active bank staging with its own, and reports the newly active bank and its count. Neither reaches the other bank's contents, the
input list or a classification in progress. -/
def Obligations.RuleWriteAndTableSwap : Prop :=
  (∀ (s : State) (tag : BitVec 32) (i : RuleIndex) (rule : Rule), Handed tag (.ruleWrite i rule) s →
      exec (.ruleWrite i rule) s = .next (commandDone tag (.ruleWrite i rule) .ok 0#64 0#64 { s with
        routing := match s.routing.active with
          | .a => { s.routing with bankB := { s.routing.bankB with rules := s.routing.bankB.rules.set i.val rule i.isLt } }
          | .b => { s.routing with bankA := { s.routing.bankA with rules := s.routing.bankA.rules.set i.val rule i.isLt } } }))
    ∧ ∀ (s : State) (tag : BitVec 32), Handed tag .tableSwap s →
      (s.routing.active = .a → exec .tableSwap s = .next (commandDone tag .tableSwap .ok
          (BitVec.ofNat 64 (1 + 2 ^ 16 * s.routing.bankB.count)) 0#64 { s with routing := { s.routing with active := .b } }))
        ∧ (s.routing.active = .b → exec .tableSwap s = .next (commandDone tag .tableSwap .ok
          (BitVec.ofNat 64 (2 ^ 16 * s.routing.bankA.count)) 0#64 { s with routing := { s.routing with active := .a } }))

/-- RULE_COUNT (R70): a record with a count above 256 is refused with BAD_ARGUMENT; an accepted one sets the staging bank's count, returns the
count held before and completes OK, leaving every rule of both banks as it was, above the new count too. RULE_COPY (R71): all 256 rules and the
count of the active bank replace those of the staging bank, the count copied is returned, it completes OK and the active bank is unchanged. -/
def Obligations.RuleCountAndRuleCopyEditStaging : Prop :=
  (∀ (tag : BitVec 32) (n : Nat), n < 2 ^ 16 →
      decodeCommand (encodeCommand tag (.ruleCount n)) = if 256 < n then .error .badArgument else .ok (.ruleCount n))
    ∧ (∀ (s : State) (tag : BitVec 32) (n : Nat), Handed tag (.ruleCount n) s →
      exec (.ruleCount n) s = .next (commandDone tag (.ruleCount n) .ok
        (BitVec.ofNat 64 (match s.routing.active with | .a => s.routing.bankB.count | .b => s.routing.bankA.count)) 0#64 { s with
        routing := match s.routing.active with
          | .a => { s.routing with bankB := { s.routing.bankB with count := n } }
          | .b => { s.routing with bankA := { s.routing.bankA with count := n } } }))
    ∧ ∀ (s : State) (tag : BitVec 32), Handed tag .ruleCopy s →
      exec .ruleCopy s = .next (commandDone tag .ruleCopy .ok
        (BitVec.ofNat 64 (match s.routing.active with | .a => s.routing.bankA.count | .b => s.routing.bankB.count)) 0#64 { s with
        routing := match s.routing.active with
          | .a => { s.routing with bankB := s.routing.bankA }
          | .b => { s.routing with bankA := s.routing.bankB } })

/-! ## The twin filter (chapter 5) -/

/-- A twin check (R63, R77-R79, R81). Outside the group's link set, or in an unconfigured group, it answers PASS and changes nothing. Inside, a
frame whose entry was made on another link is answered TWIN and the entry removed; one whose entry is from the same link refreshes it at the
newest end and passes; one without an entry is inserted at the newest end and passes, the oldest entry of 64 being evicted first and counted
against its own group. PASS sends every destination to dispatch and TWIN none. -/
def Obligations.TwinChecksPassOrSuppress : Prop :=
  ∀ (s : State) (c : Classification) (g : GroupId), s.routing.classification = some c → c.stage = .twinWait → c.twinGroup = some g →
    TwinSound s →
    let f := (s.slot c.entry).frame
    let x := s.group g
    let made : TwinEntry :=
      { group := g, key := f.key, seq := f.seq, first := f.ingress, expiry := f.arrival + BitVec.ofNat 32 x.window }
    let one := fun n : Nat => min (n + 1) 65535
    let table := fun (entries : List TwinEntry) (t : State) => { t with twin := { t.twin with table := entries } }
    let passed := fun t : State => t.modGroup g fun y => { y with passed := one y.passed }
    let wholly := { c with stage := .dispatch, outLinks := c.links, outQueues := c.queues, outMailboxes := c.mailboxes }
    let nowhere := { c with stage := .dispatch, outLinks := [], outQueues := [], outMailboxes := [] }
    let passes := fun t : State =>
      exec .twinCheck s = .next { t with routing := { s.routing with classification := some wholly } }
    let suppresses := fun t : State =>
      exec .twinCheck s = .next { t with routing := { s.routing with classification := some nowhere } }
    (x.links.getLsbD f.ingress.val = false → passes s)
      ∧ (x.links.getLsbD f.ingress.val = true →
        (∀ before e after, s.twin.table = before ++ e :: after → e.group = g → e.key = f.key → e.seq = f.seq →
            (e.first ≠ f.ingress →
                suppresses ((table (before ++ after) s).modGroup g fun y => { y with suppressed := one y.suppressed }))
              ∧ (e.first = f.ingress → passes (passed (table (before ++ after ++ [made]) s))))
          ∧ ((∀ e ∈ s.twin.table, ¬(e.group = g ∧ e.key = f.key ∧ e.seq = f.seq)) →
            (s.twin.table.length < 64 → passes (passed (table (s.twin.table ++ [made]) s)))
              ∧ ∀ oldest rest, s.twin.table = oldest :: rest → s.twin.table.length = 64 →
                passes (passed ((table (rest ++ [made]) s).modGroup oldest.group fun y => { y with evicted := one y.evicted }))))

/-- Entries leave the twin table otherwise (R80-R83): at expiry, once device time has reached the entry's expiry time; at a TWIN_FLUSH of the
group, which reports how many went and keeps configuration and counters; and at a TWIN_GROUP that changes the configuration. TWIN_GROUP reports
counters and occupancy as they were, clears the counters, takes window 0 with an empty link set, and leaves the entries where the configuration
stays the same. The others keep their order. -/
def Obligations.TwinEntriesLeaveByExpiryAndCommand : Prop :=
  (∀ (s : State) (before after : List TwinEntry) (e : TwinEntry), TwinSound s → s.twin.table = before ++ e :: after →
      (s.time - e.expiry).toNat < 2 ^ 31 →
      exec (.twinExpiry e.group e.key e.seq) s = .next { s with twin := { s.twin with table := before ++ after } })
    ∧ (∀ (s : State) (tag : BitVec 32) (g : GroupId), Handed tag (.twinFlush g) s →
      exec (.twinFlush g) s = .next (commandDone tag (.twinFlush g) .ok
        (BitVec.ofNat 64 (s.twin.table.countP fun e => e.group = g)) 0#64
        { s with twin := { s.twin with table := s.twin.table.filter fun e => e.group ≠ g } }))
    ∧ ∀ (s : State) (tag : BitVec 32) (g : GroupId) (links : LinkSet) (window : Nat), Handed tag (.twinGroup g links window) s →
      let x := s.group g
      let window' := if links = 0#4 then 0 else window
      let word := BitVec.ofNat 64
        (x.passed + 2 ^ 16 * x.suppressed + 2 ^ 32 * x.evicted + 2 ^ 48 * s.twin.table.countP fun e => e.group = g)
      let configured := fun entries : List TwinEntry => commandDone tag (.twinGroup g links window) .ok word 0#64
        (State.modGroup g (fun _ => { links := links, window := window', passed := 0, suppressed := 0, evicted := 0 })
          { s with twin := { s.twin with table := entries } })
      (x.links = links → x.window = window' → exec (.twinGroup g links window) s = .next (configured s.twin.table))
        ∧ (x.links ≠ links ∨ x.window ≠ window' →
          exec (.twinGroup g links window) s = .next (configured (s.twin.table.filter fun e => e.group ≠ g)))

/-! ## Mailboxes (chapter 6) -/

/-- A store (R64, R86, R87): always accepted; the new slot gains a reference before the old one loses its own, the content, arrival time and
ingress link are the frame's, fresh is set, and a store that finds fresh set counts one overwrite up to 255. MAILBOX_FRESH is posted exactly
when notify is on and fresh was clear. -/
def Obligations.MailboxStoresReplaceContent : Prop :=
  ∀ (s : State) (c : Classification) (m : MailboxId) (rest : List MailboxId), s.routing.classification = some c → c.stage = .dispatch →
    c.outMailboxes = m :: rest →
    let f := (s.slot c.entry).frame
    let x := s.mailbox m
    let held := s.modSlot c.entry fun y => { y with count := y.count + 1 }
    let released := match x.content with
      | some old => releaseSlot old.slot held
      | none => held
    exec (.mailboxStore m) s = .next (State.modMailbox m (fun x => { x with
        content := some { slot := c.entry, arrival := f.arrival, ingress := f.ingress }, fresh := true
        overwrites := if x.fresh = true then min (x.overwrites + 1) 255 else x.overwrites }) { released with
      routing := { s.routing with classification := some { c with outMailboxes := rest } }
      posted := s.posted ++ if x.notify = true ∧ x.fresh = false then [{ body := .mailboxFresh m f.key f.ingress, time := s.time }] else [] })

/-- The mailbox commands (R88, R89, R91, R92). MAILBOX_READ of an empty mailbox completes EMPTY; of a full one it records slot, ingress link,
arrival time, fresh and overwrite count, clears the last two, takes a reference of its own, and writes the frame image to its address. The end of
that write releases the reference and completes OK or HOST_FAULT with what was recorded. MAILBOX_CLEAR reports and empties, releasing the slot;
MAILBOX_CONFIG reports and sets notify. -/
def Obligations.MailboxCommandsReadClearAndConfigure : Prop :=
  (∀ (s : State) (tag : BitVec 32) (m : MailboxId) (address : HostAddress), Handed tag (.mailboxRead m address) s →
      let c := Command.mailboxRead m address
      let x := s.mailbox m
      (x.content = none → exec (.mailboxRead m address) s = .next (commandDone tag c .empty 0#64 0#64 s))
        ∧ ∀ held, x.content = some held →
          let r : MailboxRead := { mailbox := m, slot := held.slot, address := address, ingress := held.ingress, arrival := held.arrival,
                                   fresh := x.fresh, overwrites := x.overwrites }
          ∃ t, exec (.mailboxRead m address) s = .next t
            ∧ t = commandAccessing tag c .frameImageWrite (State.modMailbox m (fun x => { x with fresh := false, overwrites := 0 })
              (State.modSlot held.slot (fun y => { y with count := y.count + 1 }) { s with mailboxRead := some r }))
            ∧ { access := .commandBuffer, address := address, bytes := frameImage (s.slot held.slot).frame r } ∈ hostWrites t)
    ∧ (∀ (s : State) (tag : BitVec 32) (m : MailboxId) (address : HostAddress) (r : MailboxRead) (result : AccessEnd),
      Accessing tag (.mailboxRead m address) .frameImageWrite s → s.mailboxRead = some r →
      (s.host.state ≠ .detaching → exec (.mailboxReadWriteEnd result) s = .next
          (commandDone tag (.mailboxRead m address) (match result with | .done => .ok | .fault => .hostFault)
            (BitVec.ofNat 64 ((if r.fresh = true then 1 else 0) + 2 ^ 8 * r.overwrites)) 0#64
            (releaseSlot r.slot { s with mailboxRead := none })))
        ∧ (s.host.state = .detaching → exec (.mailboxReadWriteEnd result) s = exec (.hostAccessEnd .commandBuffer) s))
    ∧ (∀ (s : State) (tag : BitVec 32) (m : MailboxId), Handed tag (.mailboxClear m) s →
      let x := s.mailbox m
      let word := BitVec.ofNat 64
        ((if x.content = none then 0 else 1) + 2 * (if x.fresh = true then 1 else 0) + 2 ^ 8 * x.overwrites)
      (x.content = none → exec (.mailboxClear m) s = .next (commandDone tag (.mailboxClear m) .ok word 0#64 s))
        ∧ ∀ held, x.content = some held → exec (.mailboxClear m) s = .next (commandDone tag (.mailboxClear m) .ok word 0#64
          (releaseSlot held.slot (s.modMailbox m fun x => { x with content := none, fresh := false, overwrites := 0 }))))
    ∧ ∀ (s : State) (tag : BitVec 32) (m : MailboxId) (notify : Bool), Handed tag (.mailboxConfig m notify) s →
      let x := s.mailbox m
      exec (.mailboxConfig m notify) s = .next (commandDone tag (.mailboxConfig m notify) .ok
        (BitVec.ofNat 64 ((if x.notify = true then 1 else 0) + 2 * if x.fresh = true then 1 else 0)) 0#64
        (s.modMailbox m fun x => { x with notify := notify }))

/-! ## Cyclic transmission (chapter 8) -/

/-- Emissions, answers and ends (R120, R121). An ARMED entry whose due time is reached hands a request with its template, which gains a reference,
its key, present sequence, budget, period and policy; the sequence advances and the next due time is a period after the due time. Answers and ends
are taken in the order handed: an answer lowers requests unanswered, makes a copy outstanding unless SKIPPED, and counts emitted, emitted and
replaced, or skipped; an end makes the copy absent and counts once. Counters stop at 65535. -/
def Obligations.EmissionsAnswersAndEndsCount : Prop :=
  (∀ (s : State) (e : ScheduleId) (due : Time) (i : SlotId), (s.entry e).state = .armed → (s.entry e).nextDue = some due →
      (s.entry e).template = some i → (s.time - due).toNat < 2 ^ 31 →
      exec (.emission e) s = .next ((s.modSlot i fun y => { y with count := y.count + 1 }).modEntry e fun x => { x with
        requests := x.requests ++
          [{ slot := i, key := x.key, seq := x.seq, budget := x.budget, period := x.period, policy := x.policy, time := s.time }]
        unanswered := x.unanswered + 1, seq := x.seq + 1#4, nextDue := some (due + BitVec.ofNat 32 (x.period * 100)) }))
    ∧ ∀ (s : State) (e : ScheduleId) (rest : List CyclicMessage),
      let one := fun n : Nat => min (n + 1) 65535
      let answered := fun f : ScheduleEntry → ScheduleEntry => exec (.emissionAnswer e) s = .next
        (s.modEntry e fun x => f { x with inbox := rest, unanswered := x.unanswered - 1 })
      let ended := fun f : CyclicCounters → CyclicCounters => exec (.copyEnd e) s = .next
        (s.modEntry e fun x => { x with inbox := rest, outstanding := false, counters := f x.counters })
      ((s.entry e).inbox = .answer .admitted :: rest → answered fun x =>
          { x with outstanding := true, counters := { x.counters with emitted := one x.counters.emitted } })
        ∧ ((s.entry e).inbox = .answer .replaced :: rest → answered fun x => { x with
            outstanding := true
            counters := { x.counters with emitted := one x.counters.emitted, replaced := one x.counters.replaced } })
        ∧ ((s.entry e).inbox = .answer .skipped :: rest → answered fun x =>
          { x with counters := { x.counters with skipped := one x.counters.skipped } })
        ∧ ((s.entry e).inbox = .ended .sent :: rest → ended fun c => { c with sent := one c.sent })
        ∧ ((s.entry e).inbox = .ended .failed :: rest → ended fun c => { c with failed := one c.failed })
        ∧ ((s.entry e).inbox = .ended .expired :: rest → ended fun c => { c with expired := one c.expired })
        ∧ ((s.entry e).inbox = .ended .dropped :: rest → ended fun c => { c with dropped := one c.dropped })

/-- CYCLIC_SET (R44, R45, R118, R157): refused with WRONG_STATE, the entry's state and whether a copy is outstanding, in ARMED and in IDLE with a
copy or an unanswered request; NO_SPACE with no FREE slot; otherwise the lowest FREE slot is granted and the payload read into it. The end of the
read fills the slot, releases an earlier template, and leaves the entry IDLE with the arguments, sequence 0 and counters 0; a payload of length 0
is not read (that it completes at once is log 20). -/
def Obligations.CyclicSetTakesTemplate : Prop :=
  (∀ (s : State) (tag : BitVec 32) (e : ScheduleId) (a : CyclicArgs), Handed tag (.cyclicSet e a) s →
      let c := Command.cyclicSet e a
      let x := s.entry e
      let refused := x.state = .armed ∨ (x.state = .idle ∧ (x.outstanding = true ∨ 0 < x.unanswered))
      (refused → exec (.cyclicSet e a) s = .next (commandDone tag c .wrongState
          (BitVec.ofNat 64 ((match x.state with | .empty => 0 | .idle => 1 | .armed => 2) + 2 ^ 8 * if x.outstanding = true then 1 else 0))
          0#64 s))
        ∧ (¬refused → (∀ i : SlotId, (s.slot i).count ≠ 0) →
          exec (.cyclicSet e a) s = .next (commandDone tag c .noSpace 0#64 0#64 s))
        ∧ (¬refused → ∀ i, LowestFree i s → 0 < a.length →
          ∃ t, exec (.cyclicSet e a) s = .next t
            ∧ t = commandAccessing tag c (.payloadRead i) (s.modSlot i fun y => { y with count := 1 })
            ∧ { access := .commandBuffer, address := a.address, length := a.length } ∈ hostReads t)
        ∧ (¬refused → ∀ i, LowestFree i s → a.length = 0 → ∀ t,
          exec (.cyclicSetReadEnd []) (commandAccessing tag c (.payloadRead i) (s.modSlot i fun y => { y with count := 1 })) = .next t →
          s.host.state ≠ .detaching → exec (.cyclicSet e a) s = .next t))
    ∧ ∀ (s : State) (tag : BitVec 32) (e : ScheduleId) (a : CyclicArgs) (i : SlotId) (payload : List Byte),
      Accessing tag (.cyclicSet e a) (.payloadRead i) s → payload.length = a.length →
      let filled := s.modSlot i fun y => { y with frame :=
        { key := a.key, seq := 0#4, payload := payload, ingress := a.link, origin := .cyclic, arrival := s.time } }
      let released := match (s.entry e).template with
        | some old => releaseSlot old filled
        | none => filled
      (s.host.state ≠ .detaching → exec (.cyclicSetReadEnd payload) s = .next (commandDone tag (.cyclicSet e a) .ok 0#64 0#64
          (released.modEntry e fun x => { x with
            state := .idle, link := a.link, key := a.key, period := a.period, phase := a.phase, policy := a.policy, budget := a.budget
            template := some i, seq := 0#4, counters := ⟨0, 0, 0, 0, 0, 0, 0⟩ })))
        ∧ (s.host.state = .detaching → exec (.cyclicSetReadEnd payload) s = exec (.hostAccessEnd .commandBuffer) s)

/-- CYCLIC_UPDATE (R44, R45, R123, R157): WRONG_STATE in EMPTY; otherwise the payload is read, and the apply examines the template's count. At 1
payload and arrival time are replaced in place; at any other the lowest FREE slot takes the old key and sequence with the new payload, becomes the
template, and the old slot loses its reference; with none FREE it is NO_SPACE and the template unchanged. The results say IN_PLACE or NEW_SLOT. A
payload of length 0 is applied at once (log 20). -/
def Obligations.CyclicUpdateAppliesByCount : Prop :=
  ∀ (s : State) (tag : BitVec 32) (e : ScheduleId) (length : Nat) (address : HostAddress),
    let c := Command.cyclicUpdate e length address
    let x := s.entry e
    let applies := fun (r : Result) (payload : List Byte) =>
      let b := { s with unit := { s.unit with buffer := payload } }
      ∀ old, x.template = some old →
        ((s.slot old).count = 1 → r = .next (commandDone tag c .ok 0#64 0#64
            (b.modSlot old fun y => { y with frame := { y.frame with payload := payload, arrival := s.time } })))
          ∧ ((s.slot old).count ≠ 1 → ∀ i, LowestFree i s → r = .next (commandDone tag c .ok 1#64 0#64
            (releaseSlot old ((b.modSlot i fun _ => { count := 1, frame :=
              { key := (s.slot old).frame.key, seq := (s.slot old).frame.seq, payload := payload, ingress := x.link, origin := .cyclic,
                arrival := s.time } }).modEntry e fun x => { x with template := some i }))))
          ∧ ((s.slot old).count ≠ 1 → (∀ i : SlotId, (s.slot i).count ≠ 0) → r = .next (commandDone tag c .noSpace 0#64 0#64 b))
    (Handed tag c s → x.state = .empty → exec (.cyclicUpdate e length address) s = .next (commandDone tag c .wrongState
        (BitVec.ofNat 64 (2 ^ 8 * if x.outstanding = true then 1 else 0)) 0#64 s))
      ∧ (Handed tag c s → x.state ≠ .empty → 0 < length →
        ∃ t, exec (.cyclicUpdate e length address) s = .next t ∧ t = commandAccessing tag c .bufferRead s
          ∧ { access := .commandBuffer, address := address, length := length } ∈ hostReads t)
      ∧ (Handed tag c s → x.state ≠ .empty → length = 0 → applies (exec (.cyclicUpdate e length address) s) [])
      ∧ (Accessing tag c .bufferRead s → ∀ payload : List Byte, payload.length = length →
        (s.host.state ≠ .detaching → applies (exec (.cyclicUpdateApply payload) s) payload)
          ∧ (s.host.state = .detaching → exec (.cyclicUpdateApply payload) s = exec (.hostAccessEnd .commandBuffer) s))

/-- CYCLIC_START, CYCLIC_STOP and CYCLIC_CLEAR by the entry's state (R119, R124, R158): START arms an IDLE entry a phase from now and reports the
due time; STOP makes an ARMED entry IDLE without a due time and reports whether a copy is outstanding; CLEAR returns an IDLE entry with neither copy
nor unanswered request to its reset values and releases its template. Elsewhere they change nothing: START is refused in EMPTY and ARMED, STOP in
EMPTY, CLEAR in ARMED and in IDLE with a copy or a request, under WRONG_STATE. -/
def Obligations.CyclicStartStopAndClearByState : Prop :=
  ∀ (s : State) (tag : BitVec 32) (e : ScheduleId),
    let x := s.entry e
    let copy := if x.outstanding = true then 1 else 0
    let refusal := fun c : Command => Host.Outcome.next (commandDone tag c .wrongState
      (BitVec.ofNat 64 ((match x.state with | .empty => 0 | .idle => 1 | .armed => 2) + 2 ^ 8 * copy)) 0#64 s)
    (Handed tag (.cyclicStart e) s →
        (x.state ≠ .idle → exec (.cyclicStart e) s = refusal (.cyclicStart e))
          ∧ (x.state = .idle → let due := s.time + BitVec.ofNat 32 (x.phase * 100)
            exec (.cyclicStart e) s = .next (commandDone tag (.cyclicStart e) .ok (due.setWidth 64) 0#64
              (s.modEntry e fun x => { x with state := .armed, nextDue := some due }))))
      ∧ (Handed tag (.cyclicStop e) s →
        (x.state = .empty → exec (.cyclicStop e) s = refusal (.cyclicStop e))
          ∧ (x.state = .idle → exec (.cyclicStop e) s = .next (commandDone tag (.cyclicStop e) .ok (BitVec.ofNat 64 copy) 0#64 s))
          ∧ (x.state = .armed → exec (.cyclicStop e) s = .next (commandDone tag (.cyclicStop e) .ok (BitVec.ofNat 64 copy) 0#64
            (s.modEntry e fun x => { x with state := .idle, nextDue := none }))))
      ∧ (Handed tag (.cyclicClear e) s →
        (x.state = .empty → exec (.cyclicClear e) s = .next (commandDone tag (.cyclicClear e) .ok 0#64 0#64 s))
          ∧ (x.state = .armed ∨ (x.state = .idle ∧ (x.outstanding = true ∨ 0 < x.unanswered)) →
            exec (.cyclicClear e) s = refusal (.cyclicClear e))
          ∧ (x.state = .idle → x.outstanding = false → x.unanswered = 0 → ∀ i, x.template = some i →
            exec (.cyclicClear e) s = .next (commandDone tag (.cyclicClear e) .ok 0#64 0#64
              ((releaseSlot i s).modEntry e fun _ => State.reset.entry e))))

/-! ## Host queues at work (chapters 9 and 10) -/

/-- A command record is taken (R132, R145, R147): the CQ device index advances and the write of the CQ device word starts. A code that is not one
of the 28 completes UNKNOWN_COMMAND; a record that fails a check completes at once under its tag with both words 0 and no other effect; NOP, which
has a row of its own (log 4), completes OK at once; any other command is in execution under the record's tag. The command unit is IDLE again once the
result has been handed and the device-word write has ended. A device word stands at 292 + 8n of the control block (section 12.1); that an address
past 2^64 wraps is the model's choice (log 42). -/
def Obligations.CommandsAreTakenAndChecked : Prop :=
  (∀ record : List Byte, field record 0 1 ∉ [0x01, 0x02, 0x03, 0x04, 0x05, 0x10, 0x11, 0x12, 0x13, 0x14, 0x20, 0x21, 0x30, 0x31, 0x32, 0x33,
      0x34, 0x40, 0x41, 0x50, 0x51, 0x52, 0x60, 0x61, 0x62, 0x63, 0x64, 0x65] → decodeCommand record = .error .unknownCommand)
    ∧ (∀ (s : State) (record : List Byte), s.unit.stage = .reading → s.host.state = .attached →
      let x := s.queue cq
      let word := (s.host.cbaHi ++ s.host.cbaLo) + 292#64
      let index := leBytes 4 ((x.device + 1) % x.desc.size)
      let read := s.modQueue cq fun x => { x with device := (x.device + 1) % x.desc.size }
      let completed := fun (result : ResultCode) (code : Nat) (tag : BitVec 32) => { read with
        unit := { s.unit with stage := .finishing, execution := none, wordWrite := true }
        status := { s.status with completions := s.status.completions ++ [.commandDone result code tag 0#64 0#64 s.time] } }
      (∀ result, decodeCommand record = .error result →
          exec (.commandTaken record) s = .next (completed result (field record 0 1) (BitVec.ofNat 32 (field record 4 4))))
        ∧ (decodeCommand record = .ok .nop →
          exec (.commandTaken record) s = .next (completed .ok 1 (BitVec.ofNat 32 (field record 4 4))))
        ∧ (∀ tag, exec (.nop tag) s = .next (completed .ok 1 tag))
        ∧ (∀ c, decodeCommand record = .ok c → c ≠ .nop → ∃ t, exec (.commandTaken record) s = .next t
          ∧ t = { read with unit := { s.unit with
                stage := .executing, wordWrite := true
                execution := some { tag := BitVec.ofNat 32 (field record 4 4), command := c, access := none } } }
          ∧ { access := .cqDeviceWord, address := word, bytes := index } ∈ hostWrites t))
    ∧ ∀ s : State, s.unit.wordWrite = true → exec .cqDeviceWordWriteEnd s = .next { s with unit := { s.unit with
        wordWrite := false, stage := if s.unit.stage = .finishing then .idle else s.unit.stage } }

/-- A send record is taken (R45, R98, R133, R166): the SQ device index advances, its device-word write starts, and the slot is filled. A length
above 64 is rejected first, then a nonzero reserved field or a sequence or budget above 15; a rejected record releases slot and place and completes
with attempts 0, and one that passes is handed for admission with all its fields. The fetch ends with the device-word write. What the slot of a
record with a length above 64 or a sequence above 15 takes, 64 payload bytes and the low four bits, is the model's choice (log 33), and so is that an
address past 2^64 wraps (log 42). -/
def Obligations.SendRecordsAreTakenAndChecked : Prop :=
  (∀ (s : State) (l : LinkId) (record : List Byte) (i : SlotId), (s.fetcher l).stage = .reading → (s.fetcher l).slot = some i →
      (s.set l).waiting = false →
      let length := field record 7 1
      let tag := BitVec.ofNat 32 (field record 0 4)
      let read := ((s.modQueue (sq l) fun x => { x with device := (x.device + 1) % x.desc.size }).modFetcher l
        fun f => { f with stage := .index, slot := none }).modSlot i fun y => { y with frame :=
          { key := BitVec.ofNat 16 (field record 4 2), seq := BitVec.ofNat 4 (field record 6 1)
            payload := (record.drop 32).take (min length 64), ingress := l, origin := .host, arrival := s.time } }
      let clear := (record[9]?.getD 0#8).extractLsb' 2 6 = 0#6 ∧ ∀ n, n < 96 → (n = 10 ∨ n = 11 ∨ (15 ≤ n ∧ n < 32)) → record[n]?.getD 0#8 = 0#8
      let rejected := fun outcome : SendOutcome =>
        let r := (releaseSlot i read).modSet l fun x => { x with reserved := false }
        exec (.sendRecordTaken l record) s = .next (if s.host.state = .attached then
          { r with status := { s.status with completions := s.status.completions ++ [.sendDone l tag outcome 0 s.time] } } else r)
      (64 < length → rejected .rejectedBadLength)
        ∧ (length ≤ 64 → ¬(clear ∧ field record 6 1 ≤ 15 ∧ field record 8 1 ≤ 15) → rejected .rejectedBadField)
        ∧ (length ≤ 64 → clear → field record 6 1 ≤ 15 → field record 8 1 ≤ 15 →
          let admission : HostAdmission :=
            { slot := i, tag := tag, key := BitVec.ofNat 16 (field record 4 2), seq := BitVec.ofNat 4 (field record 6 1)
              budget := field record 8 1, silent := (record[9]?.getD 0#8).getLsbD 0, loopback := (record[9]?.getD 0#8).getLsbD 1
              lifetime := field record 12 3 }
          ∃ t, exec (.sendRecordTaken l record) s = .next t ∧ t = read.modFetcher l (fun f => { f with admission := some admission })
          ∧ { access := .sqDeviceWord l, address := (s.host.cbaHi ++ s.host.cbaLo) + BitVec.ofNat 64 (292 + 8 * (l.val + 1))
              bytes := leBytes 4 (((s.queue (sq l)).device + 1) % (s.queue (sq l)).desc.size) } ∈ hostWrites t))
    ∧ ∀ (s : State) (l : LinkId), (s.fetcher l).stage = .index →
      exec (.sqDeviceWordWriteEnd l) s = .next (s.modFetcher l fun f => { f with stage := .none })

/-- Delivery (R66, R134, R135). An append is accepted while ATTACHED with the queue ACTIVE and fewer than 8 entries, with a reference of its own,
and refused otherwise, when the drop count rises and DELIVERY_DROPPED is posted once while the arm is set. An IDLE writer with a backlog and a
ring that is not full writes its head entry's record at the device index; then the device index advances and the device word is written; then the
entry leaves, its slot is released and one record is counted. A delivery record is 96 bytes with the fields of section 12.3, and so is the frame
image of a mailbox read, with tag and first rule index 0. That an address past 2^64 wraps is the model's choice (log 42). -/
def Obligations.DeliveriesAppendWriteAndDrop : Prop :=
  (∀ (s : State) (c : Classification) (d : DeliveryId) (tag : BitVec 16) (rest : List (DeliveryId × BitVec 16)),
      s.routing.classification = some c → c.stage = .dispatch → c.outQueues = (d, tag) :: rest →
      let w := s.writer d
      let answered := { s with routing := { s.routing with classification := some { c with outQueues := rest } } }
      let accepted := s.host.state = .attached ∧ (s.queue (dq d)).state = .active ∧ w.backlog.length < 8
      (accepted → exec (.backlogAppend d) s = .next (State.modWriter d
          (fun w => { w with backlog := w.backlog ++ [{ slot := c.entry, tag := tag, firstRule := c.firstRule }] })
          (answered.modSlot c.entry fun y => { y with count := y.count + 1 })))
        ∧ (¬accepted → exec (.backlogAppend d) s = .next (State.modWriter d (fun w => { w with drops := w.drops + 1#32, arm := false })
          { answered with posted := s.posted ++
            if w.arm = true then [{ body := .deliveryDropped d (w.drops + 1#32), time := s.time }] else [] })))
    ∧ (∀ (s : State) (d : DeliveryId) (b : BacklogEntry) (rest : List BacklogEntry), s.host.state = .attached →
      (s.queue (dq d)).state = .active → (s.writer d).stage = .idle → (s.writer d).backlog = b :: rest →
      let x := s.queue (dq d)
      ((x.device + 1) % x.desc.size ≠ x.known → ∃ t, exec (.deliveryWriteStart d) s = .next t
          ∧ t = s.modWriter d (fun w => { w with stage := .record })
          ∧ { access := .deliveryRecord d, address := x.desc.base + BitVec.ofNat 64 (96 * x.device)
              bytes := deliveryRecord (s.slot b.slot).frame b } ∈ hostWrites t)
        ∧ ((x.device + 1) % x.desc.size = x.known → exec (.deliveryWriteStart d) s = .next s))
    ∧ (∀ (s : State) (d : DeliveryId), (s.writer d).stage = .record →
      let x := s.queue (dq d)
      ∃ t, exec (.deliveryRecordWriteEnd d) s = .next t
        ∧ t = (s.modQueue (dq d) fun x => { x with device := (x.device + 1) % x.desc.size }).modWriter d (fun w => { w with stage := .index })
        ∧ { access := .dqDeviceWord d, address := (s.host.cbaHi ++ s.host.cbaLo) + BitVec.ofNat 64 (292 + 8 * (d.val + 5))
            bytes := leBytes 4 ((x.device + 1) % x.desc.size) } ∈ hostWrites t)
    ∧ (∀ (s : State) (d : DeliveryId) (b : BacklogEntry) (rest : List BacklogEntry), (s.writer d).stage = .index →
      (s.writer d).backlog = b :: rest → exec (.dqDeviceWordWriteEnd d) s =
        .next (countRecord (dq d) (releaseSlot b.slot (s.modWriter d fun w => { w with backlog := rest, stage := .idle }))))
    ∧ ∀ (f : Frame) (b : BacklogEntry) (m : MailboxRead), f.payload.length ≤ 64 → f.origin = .received ∨ f.origin = .loopback →
      let holds := fun (r : List Byte) (ingress : LinkId) (arrival : Time) (tag firstRule : Nat) =>
        r.length = 96 ∧ field r 0 1 = ingress.val ∧ field r 1 1 = (if f.origin = .received then 0 else 2) ∧ field r 2 2 = f.key.toNat
          ∧ field r 4 1 = f.seq.toNat ∧ field r 5 1 = f.payload.length ∧ field r 6 2 = tag ∧ field r 8 2 = firstRule ∧ field r 10 2 = 0
          ∧ field r 12 4 = arrival.toNat ∧ field r 16 16 = 0 ∧ r.drop 32 = f.payload ++ List.replicate (64 - f.payload.length) 0#8
      holds (deliveryRecord f b) f.ingress f.arrival b.tag.toNat (match b.firstRule with | none => 0xFFFF | some i => i.val)
        ∧ holds (frameImage f m) m.ingress m.arrival 0 0

/-- The status writer (R131, R136, R137, R167). While ATTACHED and IDLE it takes the oldest completion, and with none and a credit the head notice;
a lost count above 0 then joins the list as NOTICES_LOST and is 0. The record is written at the device index under the lap value, the byte of kind
and lap bit no earlier than the rest; then the index advances, a completion's reservation is used, the lap value flips at a wrap and the device word
is written; then one record is counted. That the reservation is used at that moment (log 14), and that an address past 2^64 wraps (log 42), are the
model's choices. A status record is 32 bytes with the fields and codes of section 12.4. -/
def Obligations.StatusRecordsAreWrittenInOrder : Prop :=
  (∀ s : State, s.host.state = .attached → s.status.stage = .idle → (s.queue stq).state = .active →
      let x := s.queue stq
      let free := x.desc.size - 1 - (x.device + x.desc.size - x.known) % x.desc.size
      let written := fun (item : StatusItem) (t : State) => exec .statusWriteStart s = .next t
        ∧ { access := .statusRecord, address := x.desc.base + BitVec.ofNat 64 (32 * x.device), bytes := statusRecord s.status.lap item
            last := some 0 } ∈ hostWrites t
      (∀ c rest, s.status.completions = c :: rest → written (.completion c)
          { s with status := { s.status with completions := rest, stage := .record, current := some (.completion c) } })
        ∧ (∀ n rest, s.status.completions = [] → s.notices = n :: rest → s.status.reserved < free → written (.notice n) { s with
          status := { s.status with stage := .record, current := some (.notice n) }
          notices := rest ++ if s.lost = 0 then [] else [{ body := .noticesLost s.lost, time := s.time }]
          lost := 0 })
        ∧ (s.status.completions = [] → (s.notices = [] ∨ free ≤ s.status.reserved) → exec .statusWriteStart s = .next s))
    ∧ (∀ (s : State) (item : StatusItem), s.status.stage = .record → s.status.current = some item →
      let x := s.queue stq
      let next := (x.device + 1) % x.desc.size
      ∃ t, exec .statusRecordWriteEnd s = .next t
        ∧ t = { s.modQueue stq (fun x => { x with device := next }) with status := { s.status with
            stage := .index, current := none, lap := if next = 0 then !s.status.lap else s.status.lap
            reserved := match item with | .completion _ => s.status.reserved - 1 | .notice _ => s.status.reserved } }
        ∧ { access := .stqDeviceWord, address := (s.host.cbaHi ++ s.host.cbaLo) + 396#64, bytes := leBytes 4 next } ∈ hostWrites t)
    ∧ (∀ s : State, s.status.stage = .index →
      exec .stqDeviceWordWriteEnd s = .next (countRecord stq { s with status := { s.status with stage := .idle } }))
    ∧ ∀ (lap : Bool) (time : Time),
      let holds := fun (item : StatusItem) (kind code source tag word0 word1 : Nat) => let r := statusRecord lap item
        r.length = 32 ∧ field r 0 1 = kind + (if lap = true then 128 else 0) ∧ field r 1 1 = code ∧ field r 2 2 = source ∧ field r 4 4 = tag
          ∧ field r 8 8 = word0 ∧ field r 16 8 = word1 ∧ field r 24 4 = time.toNat ∧ field r 28 4 = 0
      let mode := fun m : Mode => match m with
        | .offline => 0 | .joining _ => 1 | .online => 2 | .listen => 3 | .suspended => 4 | .isolated => 5
      let health := fun h : Health => match h with | .good => 0 | .caution => 1 | .muted => 2
      (∀ (l : LinkId) (tag : BitVec 32) (outcome : SendOutcome) (attempts : Nat), attempts < 256 →
          holds (.completion (.sendDone l tag outcome attempts time)) 1 ([SendOutcome.sent, .failedUnacked, .failedEcho, .failedAbortSeen, .expired,
            .cancelled, .flushed, .linkDown, .isolated, .rejectedBadLength, .rejectedBadField].idxOf outcome) l.val tag.toNat attempts 0)
        ∧ (∀ (result : ResultCode) (code : Nat) (tag : BitVec 32) (word0 word1 : BitVec 64), code < 256 →
          holds (.completion (.commandDone result code tag word0 word1 time)) 2 ([ResultCode.ok, .wrongState, .badArgument, .notFound, .inFlight,
            .noSpace, .empty, .hostFault, .unknownCommand].idxOf result) code tag.toNat word0.toNat word1.toNat)
        ∧ ∀ body : NoticeBody, let notice := holds (.notice { body := body, time := time }) 3
          match body with
          | .linkState l old new => notice 1 l.val 0 (mode old + 2 ^ 8 * mode new) 0
          | .linkHealth l old new score => score ≤ 255 → notice 2 l.val 0 (health old + 2 ^ 8 * health new + 2 ^ 16 * score) 0
          | .linkStuck l => notice 3 l.val 0 0 0
          | .linkFreed l => notice 4 l.val 0 0 0
          | .queueFault q cause => notice 5 q.val 0 (match cause with | .hostFault => 1 | .badIndex => 2) 0
          | .deliveryDropped d drops => notice 6 (d.val + 5) 0 drops.toNat 0
          | .mailboxFresh m key ingress => notice 7 m.val 0 (key.toNat + 2 ^ 16 * ingress.val) 0
          | .noticesLost n => n ≤ 65535 → notice 8 0 0 n 0

/-- Notices and coalescing (R137, R138). The oldest posted notice of a source is taken: appended below 16, counted lost at 16, discarded while not
ATTACHED. A record counts only with interrupt enable set; the first starts the holdoff, and reaching the coalescing count stops it and raises the
cause, STATUS for the STQ and DELIVERY for a DQ. A holdoff that runs out raises it too; that one of 0 does so at once is log 23. -/
def Obligations.NoticesQueueAndRecordsCoalesce : Prop :=
  (∀ (s : State) (before after : List Notice) (n : Notice), s.posted = before ++ n :: after →
      (∀ m ∈ before, m.body.source ≠ n.body.source) →
      exec (.noticePost n.body.source) s = .next (
        if s.host.state = .attached then
          if s.notices.length < 16 then { s with posted := before ++ after, notices := s.notices ++ [n] }
          else { s with posted := before ++ after, lost := min (s.lost + 1) 65535 }
        else { s with posted := before ++ after }))
    ∧ ∀ (s : State) (q : QueueId), 5 ≤ q.val →
      let x := s.queue q
      let raised := { s.host with causes := s.host.causes ||| if q.val = 13 then 2#4 else 4#4 }
      let counted := min (x.counted + 1) 4095
      let running := if x.counted = 0 then some (s.time + BitVec.ofNat 32 x.desc.holdoff) else x.holdoffEnd
      (∀ t, x.holdoffEnd = some t → (s.time - t).toNat < 2 ^ 31 → exec (.holdoffExpiry q) s = .next (State.modQueue q
          (fun x => { x with holdoffEnd := none }) { s with host := if 0 < x.counted then raised else s.host }))
        ∧ (x.desc.interruptEnable = false → countRecord q s = s)
        ∧ (x.desc.interruptEnable = true → (x.desc.coalesce ≤ counted ∨ (x.counted = 0 ∧ x.desc.holdoff = 0)) →
          countRecord q s = State.modQueue q (fun x => { x with counted := counted, holdoffEnd := none }) { s with host := raised })
        ∧ (x.desc.interruptEnable = true → counted < x.desc.coalesce → (x.counted = 0 → 0 < x.desc.holdoff) →
          countRecord q s = s.modQueue q fun x => { x with counted := counted, holdoffEnd := running })

/-- The queue commands (R127, R135, R140, R148). QUEUE_ENABLE is WRONG_STATE with the state of a queue not DISABLED, and otherwise reads the
queue's descriptor: a fault is HOST_FAULT, an invalid descriptor BAD_ARGUMENT, and a valid one loads the queue with both indices 0, ACTIVE, a DQ's
arm set and its drop count kept. QUEUE_STATUS reports state, cause, size and indices, and for a DQ backlog and drop count, clears that count and
sets the arm. That an enable ending in FAULTED still loads its queue (log 36), and that the address of a descriptor past 2^64 wraps (log 42), are the
model's choices. -/
def Obligations.QueueEnableLoadsAndQueueStatusReports : Prop :=
  (∀ (s : State) (tag : BitVec 32) (q : QueueId),
      let c := Command.queueEnable q
      let x := s.queue q
      let loaded := fun bytes : List Byte => s.modQueue q fun _ =>
        { state := .active, cause := none, desc := descriptorOf bytes, known := 0, device := 0, reading := false, reread := false,
          counted := 0, holdoffEnd := none }
      (Handed tag c s → x.state ≠ .disabled → exec (.queueEnable q) s = .next (commandDone tag c .wrongState
          (if x.state = .active then 1#64 else 2#64) 0#64 s))
        ∧ (Handed tag c s → x.state = .disabled → ∃ t, exec (.queueEnable q) s = .next t ∧ t = commandAccessing tag c .descriptorRead s
          ∧ { access := .commandBuffer, address := (s.host.cbaHi ++ s.host.cbaLo) + BitVec.ofNat 64 (64 + 16 * q.val), length := 16 }
            ∈ hostReads t)
        ∧ (Accessing tag c .descriptorRead s → s.host.state ≠ .detaching →
          exec (.queueEnableDescriptorReadEnd .fault) s = .next (commandDone tag c .hostFault 0#64 0#64 s)
            ∧ ∀ bytes, (descriptorValid q bytes = false →
                exec (.queueEnableDescriptorReadEnd (.data bytes)) s = .next (commandDone tag c .badArgument 0#64 0#64 s))
              ∧ (descriptorValid q bytes = true →
                (q.val < 5 → exec (.queueEnableDescriptorReadEnd (.data bytes)) s =
                    .next (commandDone tag c .ok 0#64 0#64 (loaded bytes)))
                  ∧ ∀ d, q = dq d → exec (.queueEnableDescriptorReadEnd (.data bytes)) s =
                    .next (commandDone tag c .ok 0#64 0#64 ((loaded bytes).modWriter d fun w => { w with arm := true }))))
        ∧ (Accessing tag c .descriptorRead s → s.host.state = .detaching → ∀ result,
          exec (.queueEnableDescriptorReadEnd result) s = exec (.hostAccessEnd .commandBuffer) s))
    ∧ ∀ (s : State) (tag : BitVec 32) (q : QueueId), Handed tag (.queueStatus q) s →
      let c := Command.queueStatus q
      let x := s.queue q
      let word := BitVec.ofNat 64 ((match x.state with | .disabled => 0 | .active => 1 | .faulted => 2)
        + 2 ^ 8 * (match x.cause with | none => 0 | some .hostFault => 1 | some .badIndex => 2)
        + 2 ^ 16 * x.desc.size + 2 ^ 32 * x.device + 2 ^ 48 * x.known)
      ((q.val < 5 ∨ q.val = 13) → exec (.queueStatus q) s = .next (commandDone tag c .ok word 0#64 s))
        ∧ ∀ d, q = dq d → exec (.queueStatus q) s = .next (commandDone tag c .ok word
          (BitVec.ofNat 64 ((s.writer d).backlog.length + 2 ^ 32 * (s.writer d).drops.toNat))
          (s.modWriter d fun w => { w with drops := 0#32, arm := true }))

/-- QUEUE_DISABLE (R131, R134, R140), in any state of the queue: it is DISABLED with cause absent, no index read and coalescing at rest, its
descriptor and indices kept. A send queue's fetch ends: it waits for no credit, slot or place any more and holds neither slot nor place, while a
record handed on and entries admitted stay; a delivery queue's backlog goes, its drop state kept. Every access of the queue that is under way is
discarded, a delivery writer's keeping the slot of the backlog's head until it ends. No other queue, writer, entry or frame is reached. R114 and R140 do not name a record handed on for admission: that it stays, with its slot and its reserved place, is the model's choice
(log 18). -/
def Obligations.QueueDisableEndsTheQueuesWork : Prop :=
  ∀ (s : State) (tag : BitVec 32) (q : QueueId), Consistent s → Handed tag (.queueDisable q) s →
    ∃ t, exec (.queueDisable q) s = .next (commandDone tag (.queueDisable q) .ok 0#64 0#64 t)
      ∧ t.queue q = { s.queue q with
          state := .disabled, cause := none, reading := false, reread := false, counted := 0, holdoffEnd := none }
      ∧ (∀ q', q' ≠ q → t.queue q' = s.queue q')
      ∧ (∀ l, q = sq l → t.fetcher l = { s.fetcher l with stage := .none, slot := none } ∧ Requester.fetcher l ∉ t.status.waiters
          ∧ l ∉ t.store.waiters ∧ (t.set l).waiting = false ∧ (t.set l).reserved = (s.fetcher l).admission.isSome)
      ∧ (∀ l, q ≠ sq l → t.set l = s.set l ∧ (t.fetcher l).admission = (s.fetcher l).admission)
      ∧ (∀ d, q = dq d → t.writer d = { s.writer d with backlog := [], stage := .idle })
      ∧ (∀ d, q ≠ dq d → t.writer d = s.writer d)
      ∧ (∀ l, (t.set l).pending = (s.set l).pending ∧ (t.set l).inFlight = (s.set l).inFlight ∧ (t.set l).counter = (s.set l).counter)
      ∧ (∀ i : SlotId, (t.slot i).frame = (s.slot i).frame)
      ∧ t.status = { s.status with waiters := t.status.waiters, reserved := t.status.reserved }
      ∧ NewlyDiscarded (fun a => HostAccess.queue? a = some q) s t
      ∧ t = { s with
          queues := t.queues, fetchers := t.fetchers, egress := t.egress, store := t.store, status := t.status
          delivery := t.delivery, discarded := t.discarded }

/-- The commands that write a snapshot to host memory, RULE_READ (R73), LINK_STATUS (R36) and CYCLIC_READ (R125): the snapshot is taken and its
write to the command's address starts, then counters are cleared if asked. The end of the write completes OK, and in a fault HOST_FAULT; RULE_READ
reports the bank's letter and count at the snapshot under both. A link status block is 64 bytes and a cyclic status block 48, each with the fields
and codes of section 12.6, for values within their ranges. In every state the writes of host memory under way, without those listed as discarded, are
exactly the device words, records and command buffers of R36, R73, R88, R125 and R132-R136, each at its own address, so that nothing else is written
(R166); that an address past 2^64 wraps is the model's choice (log 42). -/
def Obligations.SnapshotsAreWrittenToHostMemory : Prop :=
  (∀ (s : State) (tag : BitVec 32) (choice : BankChoice) (i : RuleIndex) (address : HostAddress), Handed tag (.ruleRead choice i address) s →
      let letter : BankId := match choice, s.routing.active with
        | .active, chosen => chosen
        | .staging, .a => .b
        | .staging, .b => .a
      let bank := match letter with | .a => s.routing.bankA | .b => s.routing.bankB
      let image := ruleImage bank.rules[i.val]
      ∃ t, exec (.ruleRead choice i address) s = .next t
        ∧ t = commandAccessing tag (.ruleRead choice i address)
          (.ruleImageWrite image (BitVec.ofNat 64 ((match letter with | .a => 0 | .b => 1) + 2 ^ 16 * bank.count))) s
        ∧ { access := .commandBuffer, address := address, bytes := image } ∈ hostWrites t)
    ∧ (∀ (s : State) (tag : BitVec 32) (l : LinkId) (address : HostAddress) (clear : Bool), Handed tag (.linkStatus l address clear) s →
      let k := s.link l
      ∃ t, exec (.linkStatus l address clear) s = .next t
        ∧ t = commandAccessing tag (.linkStatus l address clear) (.linkStatusWrite (linkStatusBlock k)) (withLink l
          { k with counters := if clear = true then ⟨0, 0, 0, 0, 0, 0, 0, 0, 0, 0⟩ else k.counters } [] s)
        ∧ { access := .commandBuffer, address := address, bytes := linkStatusBlock k } ∈ hostWrites t)
    ∧ (∀ (s : State) (tag : BitVec 32) (e : ScheduleId) (address : HostAddress) (clear : Bool), Handed tag (.cyclicRead e address clear) s →
      let block := cyclicStatusBlock (s.entry e) ((s.entry e).template.map fun i => (s.slot i).frame.payload.length)
      ∃ t, exec (.cyclicRead e address clear) s = .next t
        ∧ t = commandAccessing tag (.cyclicRead e address clear) (.cyclicStatusWrite block) (s.modEntry e
          fun x => { x with counters := if clear = true then ⟨0, 0, 0, 0, 0, 0, 0⟩ else x.counters })
        ∧ { access := .commandBuffer, address := address, bytes := block } ∈ hostWrites t)
    ∧ (∀ (s : State) (tag : BitVec 32) (c : Command) (result : AccessEnd),
      let code : ResultCode := match result with | .done => .ok | .fault => .hostFault
      (∀ image word, Accessing tag c (.ruleImageWrite image word) s →
          (s.host.state ≠ .detaching → exec (.ruleReadWriteEnd result) s = .next (commandDone tag c code word 0#64 s))
            ∧ (s.host.state = .detaching → exec (.ruleReadWriteEnd result) s = exec (.hostAccessEnd .commandBuffer) s))
        ∧ (∀ block, Accessing tag c (.linkStatusWrite block) s →
          (s.host.state ≠ .detaching → exec (.linkStatusWriteEnd result) s = .next (commandDone tag c code 0#64 0#64 s))
            ∧ (s.host.state = .detaching → exec (.linkStatusWriteEnd result) s = exec (.hostAccessEnd .commandBuffer) s))
        ∧ ∀ block, Accessing tag c (.cyclicStatusWrite block) s →
          (s.host.state ≠ .detaching → exec (.cyclicReadWriteEnd result) s = .next (commandDone tag c code 0#64 0#64 s))
            ∧ (s.host.state = .detaching → exec (.cyclicReadWriteEnd result) s = exec (.hostAccessEnd .commandBuffer) s))
    ∧ (∀ (s : State) (w : HostWrite),
      let word := fun (a : HostAccess) (q : QueueId) => w =
        { access := a, address := (s.host.cbaHi ++ s.host.cbaLo) + BitVec.ofNat 64 (292 + 8 * q.val), bytes := leBytes 4 (s.queue q).device }
      let entry := fun (q : QueueId) (size : Nat) => (s.queue q).desc.base + BitVec.ofNat 64 (size * (s.queue q).device)
      w ∈ hostWrites s ↔
        (s.unit.wordWrite = true ∧ word .cqDeviceWord cq)
          ∨ (∃ l : LinkId, (s.fetcher l).stage = .index ∧ word (.sqDeviceWord l) (sq l))
          ∨ (∃ d : DeliveryId, (s.writer d).stage = .index ∧ word (.dqDeviceWord d) (dq d))
          ∨ (s.status.stage = .index ∧ word .stqDeviceWord stq)
          ∨ (∃ (d : DeliveryId) (b : BacklogEntry) (rest : List BacklogEntry), (s.writer d).stage = .record ∧ (s.writer d).backlog = b :: rest
            ∧ w = { access := .deliveryRecord d, address := entry (dq d) 96, bytes := deliveryRecord (s.slot b.slot).frame b })
          ∨ (∃ item, s.status.stage = .record ∧ s.status.current = some item
            ∧ w = { access := .statusRecord, address := entry stq 32, bytes := statusRecord s.status.lap item, last := some 0 })
          ∨ ∃ tag c a, Accessing tag c a s
            ∧ ((∃ block, (a = .linkStatusWrite block ∨ a = .cyclicStatusWrite block ∨ ∃ word0, a = .ruleImageWrite block word0)
                ∧ w = { access := .commandBuffer, address := commandAddress c, bytes := block })
              ∨ (a = .frameImageWrite ∧ ∃ m, s.mailboxRead = some m
                ∧ w = { access := .commandBuffer, address := m.address, bytes := frameImage (s.slot m.slot).frame m })))
    ∧ (∀ k : Link, k.score ≤ 255 → (∀ n, k.probation = some n → n < 64) → k.config.wellFormed = true →
      let r := linkStatusBlock k
      let c := k.config
      let n := k.counters
      r.length = 64
        ∧ field r 0 1 = (match k.mode with
          | .offline => 0 | .joining _ => 1 | .online => 2 | .listen => 3 | .suspended => 4 | .isolated => 5)
        ∧ field r 1 1 = (match k.mode with | .joining .online => 2 | .joining .listen => 3 | _ => 0xFF) ∧ field r 2 1 = k.score
        ∧ field r 3 1 = (match k.health with | .good => 0 | .caution => 1 | .muted => 2)
        ∧ field r 4 1 = (if k.probation = none then 0 else 1) + (if k.stuck = true then 2 else 0) + (if k.deferral = true then 4 else 0)
        ∧ field r 5 1 = k.probation.getD 0 ∧ field r 6 2 = c.bitTime
        ∧ field r 8 1 = (match c.recoveryPolicy with | .auto => 0 | .hold => 1 | .manual => 2)
        ∧ field r 9 1 = (match c.isolateAction with | .hold => 0 | .flush => 1)
        ∧ field r 10 1 = (if c.reportMask.linkState = true then 1 else 0) + (if c.reportMask.linkHealth = true then 2 else 0)
          + (if c.reportMask.stuck = true then 4 else 0)
        ∧ field r 11 1 = (match c.unmatchedQueue with | none => 0 | some d => d.val + 1) ∧ field r 12 1 = c.forwardRetries
        ∧ field r 13 3 = 0 ∧ field r 16 4 = c.forwardLifetime
        ∧ (∀ p ∈ [(20, n.rxIntact), (24, n.rxError), (28, n.txAcked), (32, n.txFailedAttempts), (36, n.dropNoSlot), (40, n.dropInputFull),
          (44, n.dropUnmatched), (48, n.dropByRule), (52, n.forwardDropFull), (56, n.forwardDropDown)], field r p.1 4 = p.2.toNat)
        ∧ field r 60 4 = 0)
    ∧ ∀ (e : ScheduleEntry) (length : Option Nat), e.period ≤ 65535 → e.phase ≤ 65535 → e.budget ≤ 15 → (∀ n, length = some n → n ≤ 64) →
      let r := cyclicStatusBlock e length
      let n := e.counters
      let counted := [(20, n.emitted), (22, n.sent), (24, n.expired), (26, n.failed), (28, n.dropped), (30, n.skipped), (32, n.replaced)]
      (∀ p ∈ counted, p.2 ≤ 65535) →
        r.length = 48 ∧ field r 0 1 = (match e.state with | .empty => 0 | .idle => 1 | .armed => 2) ∧ field r 1 1 = e.link.val
          ∧ field r 2 2 = e.key.toNat ∧ field r 4 2 = e.period ∧ field r 6 2 = e.phase
          ∧ field r 8 1 = (match e.policy with | .skip => 0 | .replace => 1) ∧ field r 9 1 = e.budget
          ∧ field r 10 1 = length.getD 0xFF ∧ field r 11 1 = e.seq.toNat
          ∧ field r 12 1 = (if e.outstanding = true then 1 else 0) + (if e.nextDue = none then 0 else 2) ∧ field r 13 3 = 0
          ∧ field r 16 4 = (match e.nextDue with | none => 0 | some t => t.toNat)
          ∧ (∀ p ∈ counted, field r p.1 2 = p.2) ∧ field r 34 14 = 0

/-! ## Link commands (chapters 2 and 10) -/

/-- LINK_CONFIG (R32, R149) replaces the whole configuration in OFFLINE and is WRONG_STATE with the mode elsewhere. LINK_MODE follows the table of
R19 for every mode but a request of OFFLINE: the mode entered, no change, or WRONG_STATE; leaving ISOLATED by SUSPENDED abandons probation and puts
the score to 0, leaving ONLINE clears the deferral flag, and no LINK_STATE is posted. LINK_RECOVER starts probation from 0 in ISOLATED under
MANUAL (R29); LINK_FORCE enters ONLINE from ISOLATED with score 0 (R30). The three report the modes before and after, target and score (R150). -/
def Obligations.LinkCommandsFollowMode : Prop :=
  ∀ (s : State) (tag : BitVec 32) (l : LinkId), LinkSound (s.link l) →
    let k := s.link l
    let code := fun m : Mode => match m with
      | .offline => 0 | .joining _ => 1 | .online => 2 | .listen => 3 | .suspended => 4 | .isolated => 5
    let ends := fun (r : Result) (c : Command) (result : ResultCode) (k' : Link) (notices : List NoticeBody) =>
      r = .next (commandDone tag c result (BitVec.ofNat 64 (code k.mode + 2 ^ 8 * code k'.mode
        + 2 ^ 16 * (match k'.mode with | .joining .online => 2 | .joining .listen => 3 | _ => 255) + 2 ^ 24 * k'.score)) 0#64
        (withLink l k' notices s))
    let restored := { k with probation := none, score := 0, health := .good }
    (∀ cfg, Handed tag (.linkConfig l cfg) s →
        (k.mode = .offline → exec (.linkConfig l cfg) s =
            .next (commandDone tag (.linkConfig l cfg) .ok 0#64 0#64 (withLink l { k with config := cfg } [] s)))
          ∧ (k.mode ≠ .offline → exec (.linkConfig l cfg) s =
            .next (commandDone tag (.linkConfig l cfg) .wrongState (BitVec.ofNat 64 (code k.mode)) 0#64 s)))
      ∧ (∀ requested, Handed tag (.linkMode l requested) s → requested ≠ .offline →
        let moves := fun m : Mode =>
          ends (exec (.linkMode l requested) s) (.linkMode l requested) .ok { k with mode := m, deferral := false } []
        let stays := fun result : ResultCode => ends (exec (.linkMode l requested) s) (.linkMode l requested) result k []
        match k.mode, requested with
        | _, .offline => True
        | .offline, .suspended => stays .wrongState
        | .offline, .online => if k.config.bitTime = 0 then stays .wrongState else moves (.joining .online)
        | .offline, .listen => if k.config.bitTime = 0 then stays .wrongState else moves (.joining .listen)
        | .joining _, .online => moves (.joining .online)
        | .joining _, .listen => moves (.joining .listen)
        | .online, .online => stays .ok
        | .online, .listen => moves .listen
        | .listen, .online => moves .online
        | .listen, .listen => stays .ok
        | .suspended, .online => moves (.joining .online)
        | .suspended, .listen => moves (.joining .listen)
        | .suspended, .suspended => stays .ok
        | .isolated, .suspended => ends (exec (.linkMode l .suspended) s) (.linkMode l .suspended) .ok
            { restored with mode := .suspended } (healthNotice l k 0)
        | .isolated, _ => stays .wrongState
        | _, .suspended => moves .suspended)
      ∧ (Handed tag (.linkRecover l) s →
        let r := exec (.linkRecover l) s
        (k.mode = .isolated → k.config.recoveryPolicy = .manual → ends r (.linkRecover l) .ok { k with probation := some 0 } [])
          ∧ (k.mode ≠ .isolated ∨ k.config.recoveryPolicy ≠ .manual → ends r (.linkRecover l) .wrongState k []))
      ∧ (Handed tag (.linkForce l) s →
        let r := exec (.linkForce l) s
        (k.mode = .isolated → ends r (.linkForce l) .ok { restored with mode := .online } (healthNotice l k 0))
          ∧ (k.mode ≠ .isolated → ends r (.linkForce l) .wrongState k []))

/-- LINK_MODE to OFFLINE (R19, R21, R111, R113). In OFFLINE it changes nothing. From any other mode the attempt in flight is cut, its entry ended
LINK_DOWN or released if orphaned, then the pending entries end LINK_DOWN in set order; the score is 0, health GOOD with LINK_HEALTH on a change,
probation abandoned, the bus released and both flags clear; configuration, counters and frames already received are kept. -/
def Obligations.LinkModeOfflineTearsDownTheLink : Prop :=
  ∀ (s : State) (tag : BitVec 32) (l : LinkId), LinkSound (s.link l) → Handed tag (.linkMode l .offline) s →
    let k := s.link l
    let code := match k.mode with
      | .offline => 0 | .joining _ => 1 | .online => 2 | .listen => 3 | .suspended => 4 | .isolated => 5
    (k.mode = .offline → exec (.linkMode l .offline) s = .next (commandDone tag (.linkMode l .offline) .ok
        (BitVec.ofNat 64 (2 ^ 16 * 255 + 2 ^ 24 * k.score)) 0#64 s))
      ∧ (k.mode ≠ .offline →
        let down := withLink l { k with mode := .offline, deferral := false } [] s
        let landed := down.modSet l fun x => { x with inFlight := none }
        let cut := match (s.set l).inFlight with
          | none => down
          | some e => if e.orphaned = true then passPlace l (releaseSlot e.slot landed) else endEntry l e .linkDown landed
        let cleared := clearPending l .linkDown cut
        exec (.linkMode l .offline) s = .next (commandDone tag (.linkMode l .offline) .ok
          (BitVec.ofNat 64 (code + 2 ^ 16 * 255)) 0#64
          (withLink l { k with
            mode := .offline, score := 0, health := .good, probation := none, counters := (cleared.link l).counters, reception := none
            recessiveRun := 0, dominantRun := 0, stuck := false, deferral := false, following := false, idleIn := 0 }
            (healthNotice l k 0) cleared)))

/-! ## Invariants -/

/-- The state after a reset of either kind meets every invariant stated below, whatever happenings wait (R17, R38, R75, R76, R85, R94, R117,
R129, R131). -/
def Obligations.ResetMeetsEveryInvariant : Prop :=
  ∀ (kind : LastReset) (q : List Instr), let s := State.afterReset kind q
    LinksSound s ∧ TablesSound s ∧ EgressSetsSound s ∧ WithinCapacity s ∧ Consistent s ∧ ReferencesCounted s ∧ CreditSound s

/-- Every step keeps the link-level laws: scores within 0-255 with health the band of the score, probation only in ISOLATED and below 64, the
deferral flag only in ONLINE and MUTED, and a link in OFFLINE without reception, runs, flags or egress entries (R12, R17, R21, R24, R27). -/
def Obligations.LinksStaySound : Prop := ∀ s t : State, LinksSound s → step s = .next t → LinksSound t

/-- Every step keeps the tables within their rules: at most 64 twin entries, no two of the same group, key and sequence (R76); an empty mailbox
never fresh and no overwrites counted without fresh (R85); a template exactly outside EMPTY and a due time exactly in ARMED (R117); queue sizes,
indices, counts and causes as R127 and R129 have them. -/
def Obligations.TablesStaySound : Prop := ∀ s t : State, TablesSound s → step s = .next t → TablesSound t

/-- Every step keeps the capacities, 16 frames in the input list (R53), 48 places in each egress set (R97), 8 backlog entries (R134) and 16 notices
(R137), the order of every egress set (R96), and at most one copy of a schedule entry in a set (R100). -/
def Obligations.CapacitiesAndOrderHold : Prop :=
  ∀ s t : State, Consistent s → WithinCapacity s → EgressSetsSound s → step s = .next t → WithinCapacity t ∧ EgressSetsSound t

/-- Every step keeps the bookkeeping between the blocks: no requester waits twice, fetchers, the command unit and the writers hold what their stages
say, the frame under classification is in the input list, and requests unanswered are those handed or answered and not yet taken (R43, R53, R97,
R117, R131-R134). -/
def Obligations.BookkeepingStaysConsistent : Prop := ∀ s t : State, Consistent s → step s = .next t → Consistent t

/-- Every step keeps the law of the frame store (R38): a slot's reference count is the number of holders that refer to it, so no frame is freed while
it is held and no slot is lost. -/
def Obligations.ReferencesStayCounted : Prop := ∀ s t : State, StoreSound s → step s = .next t → ReferencesCounted t

/-- Every step keeps the law of R131: the reserved count is the number of reservations held, and the STQ entries reserved and those written and not yet
consumed never exceed the STQ size minus one, so no completion is lost for want of room. -/
def Obligations.CreditsStaySound : Prop :=
  ∀ s t : State, Consistent s → QueuesSound s → CreditSound s → step s = .next t → CreditSound t

/-! ## Command records (section 12.5) -/

/-- The record of any command with its arguments in range, and a window within its field, is 64 bytes that read back as that command and tag (R145,
R166, section 12.5): no field of a command is dropped, moved or cut. It holds the code, tag, host address, object number and arguments at the offsets
of section 12.5 and 0 in every other byte, and the rule image that RULE_WRITE carries and RULE_READ writes is 32 bytes with the fields of that section.
And a record of 64 bytes that is accepted as a command is that command's record,
with the arguments in range, so that one with any reserved byte or bit that is not 0, or with an argument out of range, is refused: UNKNOWN_COMMAND
exactly for a code that is not one of the 28, and BAD_ARGUMENT otherwise (R145, R168). Numbers are held least significant byte first (R166). -/
def Obligations.CommandRecordsReadBack : Prop :=
  (∀ (tag : BitVec 32) (c : Command), c.wellFormed = true → (∀ g links window, c = .twinGroup g links window → window < 2 ^ 32) →
      (encodeCommand tag c).length = 64 ∧ decodeCommand (encodeCommand tag c) = .ok c ∧ commandTag (encodeCommand tag c) = tag)
    ∧ (∀ r : List Byte, r.length = 64 →
      (∀ c, decodeCommand r = .ok c → c.wellFormed = true ∧ r = encodeCommand (BitVec.ofNat 32 (field r 4 4)) c)
        ∧ (decodeCommand r = .error .unknownCommand ↔ field r 0 1 ∉ [0x01, 0x02, 0x03, 0x04, 0x05, 0x10, 0x11, 0x12, 0x13, 0x14, 0x20, 0x21,
          0x30, 0x31, 0x32, 0x33, 0x34, 0x40, 0x41, 0x50, 0x51, 0x52, 0x60, 0x61, 0x62, 0x63, 0x64, 0x65])
        ∧ ∀ result, decodeCommand r = .error result → result = .unknownCommand ∨ result = .badArgument)
    ∧ (∀ c : Command, c.wellFormed = true → (∀ g links window, c = .twinGroup g links window → window < 2 ^ 32) →
      let bit := fun b : Bool => if b = true then 1 else 0
      let spells := fun (code address object : Nat) (arguments : List (Nat × Nat × Nat)) => ∀ tag : BitVec 32, let r := encodeCommand tag c
        field r 0 1 = code ∧ field r 1 3 = 0 ∧ field r 4 4 = tag.toNat ∧ field r 8 8 = address ∧ field r 16 2 = object
          ∧ (∀ a ∈ arguments, field r a.1 a.2.1 = a.2.2)
          ∧ ∀ i, 18 ≤ i → i < 64 → (∀ a ∈ arguments, i < a.1 ∨ a.1 + a.2.1 ≤ i) → field r i 1 = 0
      match c with
      | .nop => spells 0x01 0 0 []
      | .queueEnable q => spells 0x02 0 q.val []
      | .queueDisable q => spells 0x03 0 q.val []
      | .queueStatus q => spells 0x04 0 q.val []
      | .storeReserve n => spells 0x05 0 n []
      | .linkConfig l x => spells 0x10 0 l.val [(18, 2, x.bitTime),
          (20, 1, match x.recoveryPolicy with | .auto => 0 | .hold => 1 | .manual => 2), (21, 1, match x.isolateAction with | .hold => 0 | .flush => 1),
          (22, 1, bit x.reportMask.linkState + 2 * bit x.reportMask.linkHealth + 4 * bit x.reportMask.stuck),
          (23, 1, match x.unmatchedQueue with | none => 0 | some d => d.val + 1), (24, 1, x.forwardRetries), (28, 4, x.forwardLifetime)]
      | .linkMode l m => spells 0x11 0 l.val [(18, 1, match m with | .offline => 0 | .online => 2 | .listen => 3 | .suspended => 4)]
      | .linkRecover l => spells 0x12 0 l.val []
      | .linkForce l => spells 0x13 0 l.val []
      | .linkStatus l address clear => spells 0x14 address.toNat l.val [(18, 1, bit clear)]
      | .sendCancel l request => spells 0x20 0 l.val [(20, 4, request.toNat)]
      | .egressFlush l => spells 0x21 0 l.val []
      | .ruleWrite i x => spells 0x30 0 i.val [(24, 32, field (ruleImage x) 0 32)]
      | .ruleCount n => spells 0x31 0 n []
      | .ruleCopy => spells 0x32 0 0 []
      | .tableSwap => spells 0x33 0 0 []
      | .ruleRead bank i address => spells 0x34 address.toNat i.val [(18, 1, match bank with | .active => 0 | .staging => 1)]
      | .twinGroup g links window => spells 0x40 0 g.val [(18, 1, links.toNat), (20, 4, window)]
      | .twinFlush g => spells 0x41 0 g.val []
      | .mailboxConfig m notify => spells 0x50 0 m.val [(18, 1, bit notify)]
      | .mailboxRead m address => spells 0x51 address.toNat m.val []
      | .mailboxClear m => spells 0x52 0 m.val []
      | .cyclicSet e x => spells 0x60 x.address.toNat e.val [(18, 1, x.link.val), (19, 1, match x.policy with | .skip => 0 | .replace => 1),
          (20, 2, x.key.toNat), (22, 2, x.period), (24, 2, x.phase), (26, 1, x.budget), (27, 1, x.length)]
      | .cyclicStart e => spells 0x61 0 e.val []
      | .cyclicStop e => spells 0x62 0 e.val []
      | .cyclicUpdate e length address => spells 0x63 address.toNat e.val [(27, 1, length)]
      | .cyclicClear e => spells 0x64 0 e.val []
      | .cyclicRead e address clear => spells 0x65 address.toNat e.val [(18, 1, bit clear)])
    ∧ (∀ x : Rule, x.wellFormed = true → let r := ruleImage x
      let bit := fun b : Bool => if b = true then 1 else 0
      r.length = 32 ∧ field r 0 1 = x.ingress.toNat ∧ field r 1 1 = (match x.origin with | .received => 0 | .loopback => 1 | .both => 2)
        ∧ field r 2 2 = x.keyValue.toNat ∧ field r 4 2 = x.keyMask.toNat ∧ field r 6 1 = x.lengthMin ∧ field r 7 1 = x.lengthMax
        ∧ field r 8 1 = x.links.toNat ∧ field r 9 1 = x.delivery.toNat
        ∧ field r 10 1 = bit x.continueWalk + 2 * bit x.twin.isSome + 4 * bit x.rewriteKey.isSome + 8 * bit x.mailbox.isSome
        ∧ field r 11 1 = (match x.twin with | none => 0 | some g => g.val) ∧ field r 12 2 = (match x.rewriteKey with | none => 0 | some k => k.toNat)
        ∧ field r 14 1 = (match x.mailbox with | none => 0 | some m => m.val) ∧ field r 15 1 = 0 ∧ field r 16 2 = x.tag.toNat
        ∧ field r 18 14 = 0)
    ∧ ∀ n v : Nat, (leBytes n v).length = n ∧ leNat (leBytes n v) = v % 256 ^ n
      ∧ ∀ i, i < n → (leBytes n v)[i]? = some (BitVec.ofNat 8 (v / 256 ^ i))
end

