-- ==== Sys2Proof/Laws/Checks.lean ====
section
/-! SUPPORT. The predicates of Safety that quantify over what an optional field holds, each in a form that evaluates on a given state. -/

namespace Sys2Proof.Machine

/-- What holds of the content of an optional value, as a check. -/
theorem forall_some_iff_all {α : Type} (o : Option α) (p : α → Bool) : (∀ x, o = some x → p x = true) ↔ o.all p = true := by
  cases o <;> simp

/-- `LinkSound` by evaluation. -/
theorem linkSound_iff (k : Link) : LinkSound k ↔
    k.score ≤ 255 ∧ k.health = healthOf k.score ∧ k.probation.all (fun n => k.mode = .isolated ∧ n < 64) = true
      ∧ (k.deferral = true → k.mode = .online ∧ k.health = .muted) := by
  unfold LinkSound
  rw [← forall_some_iff_all]
  simp

/-- The command whose payload read is under way is not a CYCLIC_SET of an ARMED entry. -/
def payloadReadCheck (s : State) (x : Execution) : Bool :=
  match x.command with
  | .cyclicSet e _ => x.access = none ∨ (s.entry e).state ≠ .armed
  | _ => true

/-- `SchedulesSound` by evaluation. -/
theorem schedulesSound_iff (s : State) : SchedulesSound s ↔
    (∀ e : ScheduleId, ScheduleSound (s.entry e)) ∧ s.unit.execution.all (payloadReadCheck s) = true := by
  unfold SchedulesSound
  rw [← forall_some_iff_all]
  refine and_congr_right fun _ => ?_
  constructor
  · intro h x hx
    unfold payloadReadCheck
    split
    · rename_i e args hc
      by_cases ha : x.access = none
      · simp [ha]
      · simpa [ha] using h x e args hx hc ha
    · rfl
  · intro h x e args hx hc ha
    have := h x hx
    simp only [payloadReadCheck, hc] at this
    simpa [ha] using this

/-- `FetcherConsistent` as a check. -/
def fetcherCheck (s : State) (l : LinkId) : Bool :=
  let f := s.fetcher l
  let x := s.set l
  decide (Requester.fetcher l ∈ s.status.waiters → f.stage = .credit) && decide (l ∈ s.store.waiters → f.stage = .slot)
    && decide (x.waiting = true → f.stage = .place ∧ f.admission = none ∧ x.reserved = false)
    && decide (f.stage = .reading → x.reserved = true ∧ f.admission = none)
    && decide (f.admission.isSome = true → x.reserved = true)
    && decide (x.reserved = true → f.stage = .reading ∨ f.admission.isSome = true)
    && decide (f.slot.isSome = true ↔ f.stage = .place ∨ f.stage = .reading)

/-- `UnitConsistent` as a check. -/
def unitCheck (s : State) : Bool :=
  decide (s.unit.execution.isSome = true ↔ s.unit.stage = .executing)
    && decide (s.unit.stage = .finishing → s.unit.wordWrite = true)
    && decide (Requester.commandUnit ∈ s.status.waiters → s.unit.stage = .credit)
    && decide (s.unit.stage = .credit ∨ s.unit.stage = .reading → s.host.state = .attached)
    && decide (s.mailboxRead.isSome = true ↔ s.unit.access = some .frameImageWrite)
    && s.unit.execution.all (fun x => x.command.wellFormed)
    && decide (s.host.state = .detached ∨ s.host.state = .attaching → s.unit.execution = none)

/-- `Consistent` as a check. -/
def consistentCheck (s : State) : Bool :=
  decide s.status.waiters.Nodup && decide s.store.waiters.Nodup && decide (∀ l : LinkId, fetcherCheck s l = true) && unitCheck s
    && s.routing.classification.all (fun c => c.entry ∈ s.routing.input)
    && decide (∀ d : DeliveryId, (s.writer d).stage ≠ .idle → (s.writer d).backlog ≠ [])
    && decide (s.status.current.isSome = true ↔ s.status.stage = .record)
    && decide (∀ e : ScheduleId, (s.entry e).unanswered = (s.entry e).requests.length + (s.entry e).answersWaiting)

/-- A state that passes the check is consistent. -/
theorem consistent_of_check {s : State} (h : consistentCheck s = true) : Consistent s := by
  simp only [consistentCheck, fetcherCheck, unitCheck, Bool.and_eq_true, decide_eq_true_eq] at h
  obtain ⟨⟨⟨⟨⟨⟨⟨h1, h2⟩, h3⟩, h4⟩, h5⟩, h6⟩, h7⟩, h8⟩ := h
  obtain ⟨⟨⟨⟨⟨⟨u1, u2⟩, u3⟩, u4⟩, u5⟩, u6⟩, u7⟩ := h4
  refine ⟨h1, h2, fun l => ?_, ⟨u1, u2, u3, u4, u5, (forall_some_iff_all _ _).mpr u6, u7⟩, ?_, ⟨h6, h7⟩, h8⟩
  · obtain ⟨⟨⟨⟨⟨⟨a, b⟩, c⟩, d⟩, e⟩, f⟩, g⟩ := h3 l
    exact ⟨a, b, c, d, e, f, g⟩
  · intro c hc
    simpa using (forall_some_iff_all _ _).mpr h5 c hc

/-- The law of R38 by evaluation: the holders, and the counts of all slots in order. -/
theorem referencesCounted_of_lists {s : State} {hs : List SlotId} (h : holders s = hs)
    (c : s.store.slots.toList.map (·.count) = (List.finRange 384).map fun i => hs.count i) : ReferencesCounted s := by
  intro i
  have := congrArg (fun xs => xs[i.val]?) c
  simpa [h, State.slot, List.getElem?_map] using this

/-- No slot below this one is FREE, by evaluation of the counts of all slots in order. -/
theorem lowestFree_of_counts {s : State} {i : SlotId} (h : (s.slot i).count = 0)
    (c : ((s.store.slots.toList.map (·.count)).take i.val).all (· != 0) = true) : LowestFree i s := by
  refine ⟨h, fun j hj => ?_⟩
  rw [List.all_eq_true] at c
  have hj' : j.val < ((s.store.slots.toList.map (·.count)).take i.val).length := by
    have hij : j.val < i.val := hj
    have := i.isLt
    simp only [List.length_take, List.length_map, Vector.length_toList]
    exact Nat.lt_min.mpr ⟨hij, j.isLt⟩
  have := c _ (List.getElem_mem hj')
  simpa [State.slot] using this

/-- No slot is FREE, by evaluation of the counts of all slots in order. -/
theorem noneFree_of_counts {s : State} (c : (s.store.slots.toList.map (·.count)).all (· != 0) = true) (i : SlotId) :
    (s.slot i).count ≠ 0 := by
  rw [List.all_eq_true] at c
  have hi : i.val < (s.store.slots.toList.map (·.count)).length := by simp
  have := c _ (List.getElem_mem hi)
  simpa [State.slot] using this

end Sys2Proof.Machine
end

