-- ==== Sys2Proof/Laws/Commands.lean ====
section
/-! SUPPORT. What taking and completing a command is, in the terms of Safety: the laws by which a statement about one command is proved
without unfolding the command unit. -/

namespace Sys2Proof.Machine

/-- The owner takes a command that has been handed to it. -/
theorem takeCommand_handed {tag : BitVec 32} {c : Command} {s : State} (h : Handed tag c s) (effect : State → State) :
    takeCommand c effect s = .next (effect s) := by
  unfold Handed at h
  simp [takeCommand, h]

/-- Completing the command in execution is `commandDone` on it. -/
theorem complete_eq_commandDone {tag : BitVec 32} {c : Command} {a : Option CommandAccess} {s : State}
    (h : s.unit.execution = some { tag := tag, command := c, access := a }) (result : ResultCode) (word0 word1 : BitVec 64) :
    complete result word0 word1 s = commandDone tag c result word0 word1 s := by
  unfold complete completeAs commandDone settleDetach handCompletion State.attached CommandUnit.resultHanded
  rw [h]
  by_cases ha : s.host.state = .attached
  · simp [ha]
  · by_cases hd : s.host.state = .detaching ∧ s.discarded = []
    · simp [hd]
    · simp [ha, hd]

/-- Completing without result data is `commandDone` with both words 0. -/
theorem completePlain_eq_commandDone {tag : BitVec 32} {c : Command} {a : Option CommandAccess} {s : State}
    (h : s.unit.execution = some { tag := tag, command := c, access := a }) (result : ResultCode) :
    completePlain result s = commandDone tag c result 0#64 0#64 s := complete_eq_commandDone h result _ _

/-- Starting a command's own access is `commandAccessing` on the command in execution. -/
theorem startAccess_eq_commandAccessing {tag : BitVec 32} {c : Command} {b : Option CommandAccess} {s : State}
    (h : s.unit.execution = some { tag := tag, command := c, access := b }) (a : CommandAccess) :
    startAccess a s = commandAccessing tag c a s := by
  unfold startAccess commandAccessing
  rw [h]; rfl

/-- The own access that a command in execution is making. -/
theorem Accessing.access {tag : BitVec 32} {c : Command} {a : CommandAccess} {s : State} (h : Accessing tag c a s) :
    s.unit.access = some a := by
  unfold Accessing at h
  simp [CommandUnit.access, h]

/-- A result word with one field is that field. -/
theorem packWord_one (a : Nat) : packWord [(0, a)] = BitVec.ofNat 64 a := by simp [packWord]

/-- A result word with two fields. -/
theorem packWord_two (a i b : Nat) : packWord [(0, a), (i, b)] = BitVec.ofNat 64 (a + 2 ^ i * b) := by
  simp only [packWord, List.foldr_cons, List.foldr_nil, Nat.pow_zero, Nat.mul_one, Nat.add_zero, Nat.mul_comm]

/-- A result word with three fields. -/
theorem packWord_three (a i b j c : Nat) :
    packWord [(0, a), (i, b), (j, c)] = BitVec.ofNat 64 (a + 2 ^ i * b + 2 ^ j * c) := by
  simp only [packWord, List.foldr_cons, List.foldr_nil, Nat.pow_zero, Nat.mul_one, Nat.add_zero, Nat.mul_comm, Nat.add_assoc]

/-- A result word with four fields. -/
theorem packWord_four (a i b j c k d : Nat) :
    packWord [(0, a), (i, b), (j, c), (k, d)] = BitVec.ofNat 64 (a + 2 ^ i * b + 2 ^ j * c + 2 ^ k * d) := by
  simp only [packWord, List.foldr_cons, List.foldr_nil, Nat.pow_zero, Nat.mul_one, Nat.add_zero, Nat.mul_comm, Nat.add_assoc]

end Sys2Proof.Machine
end

