-- ==== Sys2Proof/Laws/State.lean ====
section
/-! SUPPORT. What each change of one numbered thing leaves: one lemma per field of the state, one per other numbered thing, and what
is read back. -/

namespace Sys2Proof.Machine

/-- Reading back a member of a changed collection. -/
theorem update_get {α : Type} {n : Nat} (v : Vector α n) (i j : Fin n) (f : α → α) :
    (update v i f)[j.val] = if j = i then f v[j.val] else v[j.val] := by
  unfold update
  rw [Vector.getElem_set]
  by_cases h : j = i
  · subst h; simp
  · have : ¬i.val = j.val := fun e => h (Fin.ext e.symm)
    simp [h, this]

/-! ## modLink -/

@[simp] theorem State.modLink_pending (i : LinkId) (f : Link → Link) (s : State) : (s.modLink i f).pending = s.pending := rfl
@[simp] theorem State.modLink_time (i : LinkId) (f : Link → Link) (s : State) : (s.modLink i f).time = s.time := rfl
@[simp] theorem State.modLink_store (i : LinkId) (f : Link → Link) (s : State) : (s.modLink i f).store = s.store := rfl
@[simp] theorem State.modLink_routing (i : LinkId) (f : Link → Link) (s : State) : (s.modLink i f).routing = s.routing := rfl
@[simp] theorem State.modLink_twin (i : LinkId) (f : Link → Link) (s : State) : (s.modLink i f).twin = s.twin := rfl
@[simp] theorem State.modLink_mailboxes (i : LinkId) (f : Link → Link) (s : State) : (s.modLink i f).mailboxes = s.mailboxes := rfl
@[simp] theorem State.modLink_mailboxRead (i : LinkId) (f : Link → Link) (s : State) : (s.modLink i f).mailboxRead = s.mailboxRead := rfl
@[simp] theorem State.modLink_egress (i : LinkId) (f : Link → Link) (s : State) : (s.modLink i f).egress = s.egress := rfl
@[simp] theorem State.modLink_schedule (i : LinkId) (f : Link → Link) (s : State) : (s.modLink i f).schedule = s.schedule := rfl
@[simp] theorem State.modLink_host (i : LinkId) (f : Link → Link) (s : State) : (s.modLink i f).host = s.host := rfl
@[simp] theorem State.modLink_queues (i : LinkId) (f : Link → Link) (s : State) : (s.modLink i f).queues = s.queues := rfl
@[simp] theorem State.modLink_delivery (i : LinkId) (f : Link → Link) (s : State) : (s.modLink i f).delivery = s.delivery := rfl
@[simp] theorem State.modLink_fetchers (i : LinkId) (f : Link → Link) (s : State) : (s.modLink i f).fetchers = s.fetchers := rfl
@[simp] theorem State.modLink_status (i : LinkId) (f : Link → Link) (s : State) : (s.modLink i f).status = s.status := rfl
@[simp] theorem State.modLink_notices (i : LinkId) (f : Link → Link) (s : State) : (s.modLink i f).notices = s.notices := rfl
@[simp] theorem State.modLink_lost (i : LinkId) (f : Link → Link) (s : State) : (s.modLink i f).lost = s.lost := rfl
@[simp] theorem State.modLink_posted (i : LinkId) (f : Link → Link) (s : State) : (s.modLink i f).posted = s.posted := rfl
@[simp] theorem State.modLink_unit (i : LinkId) (f : Link → Link) (s : State) : (s.modLink i f).unit = s.unit := rfl
@[simp] theorem State.modLink_discarded (i : LinkId) (f : Link → Link) (s : State) : (s.modLink i f).discarded = s.discarded := rfl
@[simp] theorem State.modLink_set (i : LinkId) (f : Link → Link) (s : State) (j : LinkId) : (s.modLink i f).set j = s.set j := rfl
@[simp] theorem State.modLink_queue (i : LinkId) (f : Link → Link) (s : State) (j : QueueId) : (s.modLink i f).queue j = s.queue j := rfl
@[simp] theorem State.modLink_writer (i : LinkId) (f : Link → Link) (s : State) (j : DeliveryId) : (s.modLink i f).writer j = s.writer j := rfl
@[simp] theorem State.modLink_fetcher (i : LinkId) (f : Link → Link) (s : State) (j : LinkId) : (s.modLink i f).fetcher j = s.fetcher j := rfl
@[simp] theorem State.modLink_mailbox (i : LinkId) (f : Link → Link) (s : State) (j : MailboxId) : (s.modLink i f).mailbox j = s.mailbox j := rfl
@[simp] theorem State.modLink_entry (i : LinkId) (f : Link → Link) (s : State) (j : ScheduleId) : (s.modLink i f).entry j = s.entry j := rfl
@[simp] theorem State.modLink_slot (i : LinkId) (f : Link → Link) (s : State) (j : SlotId) : (s.modLink i f).slot j = s.slot j := rfl
@[simp] theorem State.modLink_group (i : LinkId) (f : Link → Link) (s : State) (j : GroupId) : (s.modLink i f).group j = s.group j := rfl
theorem State.modLink_link (i j : LinkId) (f : Link → Link) (s : State) :
    (s.modLink i f).link j = if j = i then f (s.link j) else s.link j := by
  simp only [State.link, State.modLink]; exact update_get _ _ _ _
@[simp] theorem State.modLink_link_self (i : LinkId) (f : Link → Link) (s : State) : (s.modLink i f).link i = f (s.link i) := by
  rw [State.modLink_link]; simp
@[simp] theorem State.modLink_link_ne {i j : LinkId} (h : j ≠ i) (f : Link → Link) (s : State) : (s.modLink i f).link j = s.link j := by
  rw [State.modLink_link]; simp [h]
@[simp] theorem State.modLink_attached (i : LinkId) (f : Link → Link) (s : State) : (s.modLink i f).attached = s.attached := rfl

/-! ## modSet -/

@[simp] theorem State.modSet_pending (i : LinkId) (f : EgressSet → EgressSet) (s : State) : (s.modSet i f).pending = s.pending := rfl
@[simp] theorem State.modSet_time (i : LinkId) (f : EgressSet → EgressSet) (s : State) : (s.modSet i f).time = s.time := rfl
@[simp] theorem State.modSet_links (i : LinkId) (f : EgressSet → EgressSet) (s : State) : (s.modSet i f).links = s.links := rfl
@[simp] theorem State.modSet_store (i : LinkId) (f : EgressSet → EgressSet) (s : State) : (s.modSet i f).store = s.store := rfl
@[simp] theorem State.modSet_routing (i : LinkId) (f : EgressSet → EgressSet) (s : State) : (s.modSet i f).routing = s.routing := rfl
@[simp] theorem State.modSet_twin (i : LinkId) (f : EgressSet → EgressSet) (s : State) : (s.modSet i f).twin = s.twin := rfl
@[simp] theorem State.modSet_mailboxes (i : LinkId) (f : EgressSet → EgressSet) (s : State) : (s.modSet i f).mailboxes = s.mailboxes := rfl
@[simp] theorem State.modSet_mailboxRead (i : LinkId) (f : EgressSet → EgressSet) (s : State) : (s.modSet i f).mailboxRead = s.mailboxRead := rfl
@[simp] theorem State.modSet_schedule (i : LinkId) (f : EgressSet → EgressSet) (s : State) : (s.modSet i f).schedule = s.schedule := rfl
@[simp] theorem State.modSet_host (i : LinkId) (f : EgressSet → EgressSet) (s : State) : (s.modSet i f).host = s.host := rfl
@[simp] theorem State.modSet_queues (i : LinkId) (f : EgressSet → EgressSet) (s : State) : (s.modSet i f).queues = s.queues := rfl
@[simp] theorem State.modSet_delivery (i : LinkId) (f : EgressSet → EgressSet) (s : State) : (s.modSet i f).delivery = s.delivery := rfl
@[simp] theorem State.modSet_fetchers (i : LinkId) (f : EgressSet → EgressSet) (s : State) : (s.modSet i f).fetchers = s.fetchers := rfl
@[simp] theorem State.modSet_status (i : LinkId) (f : EgressSet → EgressSet) (s : State) : (s.modSet i f).status = s.status := rfl
@[simp] theorem State.modSet_notices (i : LinkId) (f : EgressSet → EgressSet) (s : State) : (s.modSet i f).notices = s.notices := rfl
@[simp] theorem State.modSet_lost (i : LinkId) (f : EgressSet → EgressSet) (s : State) : (s.modSet i f).lost = s.lost := rfl
@[simp] theorem State.modSet_posted (i : LinkId) (f : EgressSet → EgressSet) (s : State) : (s.modSet i f).posted = s.posted := rfl
@[simp] theorem State.modSet_unit (i : LinkId) (f : EgressSet → EgressSet) (s : State) : (s.modSet i f).unit = s.unit := rfl
@[simp] theorem State.modSet_discarded (i : LinkId) (f : EgressSet → EgressSet) (s : State) : (s.modSet i f).discarded = s.discarded := rfl
@[simp] theorem State.modSet_link (i : LinkId) (f : EgressSet → EgressSet) (s : State) (j : LinkId) : (s.modSet i f).link j = s.link j := rfl
@[simp] theorem State.modSet_queue (i : LinkId) (f : EgressSet → EgressSet) (s : State) (j : QueueId) : (s.modSet i f).queue j = s.queue j := rfl
@[simp] theorem State.modSet_writer (i : LinkId) (f : EgressSet → EgressSet) (s : State) (j : DeliveryId) : (s.modSet i f).writer j = s.writer j := rfl
@[simp] theorem State.modSet_fetcher (i : LinkId) (f : EgressSet → EgressSet) (s : State) (j : LinkId) : (s.modSet i f).fetcher j = s.fetcher j := rfl
@[simp] theorem State.modSet_mailbox (i : LinkId) (f : EgressSet → EgressSet) (s : State) (j : MailboxId) : (s.modSet i f).mailbox j = s.mailbox j := rfl
@[simp] theorem State.modSet_entry (i : LinkId) (f : EgressSet → EgressSet) (s : State) (j : ScheduleId) : (s.modSet i f).entry j = s.entry j := rfl
@[simp] theorem State.modSet_slot (i : LinkId) (f : EgressSet → EgressSet) (s : State) (j : SlotId) : (s.modSet i f).slot j = s.slot j := rfl
@[simp] theorem State.modSet_group (i : LinkId) (f : EgressSet → EgressSet) (s : State) (j : GroupId) : (s.modSet i f).group j = s.group j := rfl
theorem State.modSet_set (i j : LinkId) (f : EgressSet → EgressSet) (s : State) :
    (s.modSet i f).set j = if j = i then f (s.set j) else s.set j := by
  simp only [State.set, State.modSet]; exact update_get _ _ _ _
@[simp] theorem State.modSet_set_self (i : LinkId) (f : EgressSet → EgressSet) (s : State) : (s.modSet i f).set i = f (s.set i) := by
  rw [State.modSet_set]; simp
@[simp] theorem State.modSet_set_ne {i j : LinkId} (h : j ≠ i) (f : EgressSet → EgressSet) (s : State) : (s.modSet i f).set j = s.set j := by
  rw [State.modSet_set]; simp [h]
@[simp] theorem State.modSet_attached (i : LinkId) (f : EgressSet → EgressSet) (s : State) : (s.modSet i f).attached = s.attached := rfl

/-! ## modQueue -/

@[simp] theorem State.modQueue_pending (i : QueueId) (f : Queue → Queue) (s : State) : (s.modQueue i f).pending = s.pending := rfl
@[simp] theorem State.modQueue_time (i : QueueId) (f : Queue → Queue) (s : State) : (s.modQueue i f).time = s.time := rfl
@[simp] theorem State.modQueue_links (i : QueueId) (f : Queue → Queue) (s : State) : (s.modQueue i f).links = s.links := rfl
@[simp] theorem State.modQueue_store (i : QueueId) (f : Queue → Queue) (s : State) : (s.modQueue i f).store = s.store := rfl
@[simp] theorem State.modQueue_routing (i : QueueId) (f : Queue → Queue) (s : State) : (s.modQueue i f).routing = s.routing := rfl
@[simp] theorem State.modQueue_twin (i : QueueId) (f : Queue → Queue) (s : State) : (s.modQueue i f).twin = s.twin := rfl
@[simp] theorem State.modQueue_mailboxes (i : QueueId) (f : Queue → Queue) (s : State) : (s.modQueue i f).mailboxes = s.mailboxes := rfl
@[simp] theorem State.modQueue_mailboxRead (i : QueueId) (f : Queue → Queue) (s : State) : (s.modQueue i f).mailboxRead = s.mailboxRead := rfl
@[simp] theorem State.modQueue_egress (i : QueueId) (f : Queue → Queue) (s : State) : (s.modQueue i f).egress = s.egress := rfl
@[simp] theorem State.modQueue_schedule (i : QueueId) (f : Queue → Queue) (s : State) : (s.modQueue i f).schedule = s.schedule := rfl
@[simp] theorem State.modQueue_host (i : QueueId) (f : Queue → Queue) (s : State) : (s.modQueue i f).host = s.host := rfl
@[simp] theorem State.modQueue_delivery (i : QueueId) (f : Queue → Queue) (s : State) : (s.modQueue i f).delivery = s.delivery := rfl
@[simp] theorem State.modQueue_fetchers (i : QueueId) (f : Queue → Queue) (s : State) : (s.modQueue i f).fetchers = s.fetchers := rfl
@[simp] theorem State.modQueue_status (i : QueueId) (f : Queue → Queue) (s : State) : (s.modQueue i f).status = s.status := rfl
@[simp] theorem State.modQueue_notices (i : QueueId) (f : Queue → Queue) (s : State) : (s.modQueue i f).notices = s.notices := rfl
@[simp] theorem State.modQueue_lost (i : QueueId) (f : Queue → Queue) (s : State) : (s.modQueue i f).lost = s.lost := rfl
@[simp] theorem State.modQueue_posted (i : QueueId) (f : Queue → Queue) (s : State) : (s.modQueue i f).posted = s.posted := rfl
@[simp] theorem State.modQueue_unit (i : QueueId) (f : Queue → Queue) (s : State) : (s.modQueue i f).unit = s.unit := rfl
@[simp] theorem State.modQueue_discarded (i : QueueId) (f : Queue → Queue) (s : State) : (s.modQueue i f).discarded = s.discarded := rfl
@[simp] theorem State.modQueue_link (i : QueueId) (f : Queue → Queue) (s : State) (j : LinkId) : (s.modQueue i f).link j = s.link j := rfl
@[simp] theorem State.modQueue_set (i : QueueId) (f : Queue → Queue) (s : State) (j : LinkId) : (s.modQueue i f).set j = s.set j := rfl
@[simp] theorem State.modQueue_writer (i : QueueId) (f : Queue → Queue) (s : State) (j : DeliveryId) : (s.modQueue i f).writer j = s.writer j := rfl
@[simp] theorem State.modQueue_fetcher (i : QueueId) (f : Queue → Queue) (s : State) (j : LinkId) : (s.modQueue i f).fetcher j = s.fetcher j := rfl
@[simp] theorem State.modQueue_mailbox (i : QueueId) (f : Queue → Queue) (s : State) (j : MailboxId) : (s.modQueue i f).mailbox j = s.mailbox j := rfl
@[simp] theorem State.modQueue_entry (i : QueueId) (f : Queue → Queue) (s : State) (j : ScheduleId) : (s.modQueue i f).entry j = s.entry j := rfl
@[simp] theorem State.modQueue_slot (i : QueueId) (f : Queue → Queue) (s : State) (j : SlotId) : (s.modQueue i f).slot j = s.slot j := rfl
@[simp] theorem State.modQueue_group (i : QueueId) (f : Queue → Queue) (s : State) (j : GroupId) : (s.modQueue i f).group j = s.group j := rfl
theorem State.modQueue_queue (i j : QueueId) (f : Queue → Queue) (s : State) :
    (s.modQueue i f).queue j = if j = i then f (s.queue j) else s.queue j := by
  simp only [State.queue, State.modQueue]; exact update_get _ _ _ _
@[simp] theorem State.modQueue_queue_self (i : QueueId) (f : Queue → Queue) (s : State) : (s.modQueue i f).queue i = f (s.queue i) := by
  rw [State.modQueue_queue]; simp
@[simp] theorem State.modQueue_queue_ne {i j : QueueId} (h : j ≠ i) (f : Queue → Queue) (s : State) : (s.modQueue i f).queue j = s.queue j := by
  rw [State.modQueue_queue]; simp [h]
@[simp] theorem State.modQueue_attached (i : QueueId) (f : Queue → Queue) (s : State) : (s.modQueue i f).attached = s.attached := rfl

/-! ## modWriter -/

@[simp] theorem State.modWriter_pending (i : DeliveryId) (f : DeliveryWriter → DeliveryWriter) (s : State) : (s.modWriter i f).pending = s.pending := rfl
@[simp] theorem State.modWriter_time (i : DeliveryId) (f : DeliveryWriter → DeliveryWriter) (s : State) : (s.modWriter i f).time = s.time := rfl
@[simp] theorem State.modWriter_links (i : DeliveryId) (f : DeliveryWriter → DeliveryWriter) (s : State) : (s.modWriter i f).links = s.links := rfl
@[simp] theorem State.modWriter_store (i : DeliveryId) (f : DeliveryWriter → DeliveryWriter) (s : State) : (s.modWriter i f).store = s.store := rfl
@[simp] theorem State.modWriter_routing (i : DeliveryId) (f : DeliveryWriter → DeliveryWriter) (s : State) : (s.modWriter i f).routing = s.routing := rfl
@[simp] theorem State.modWriter_twin (i : DeliveryId) (f : DeliveryWriter → DeliveryWriter) (s : State) : (s.modWriter i f).twin = s.twin := rfl
@[simp] theorem State.modWriter_mailboxes (i : DeliveryId) (f : DeliveryWriter → DeliveryWriter) (s : State) : (s.modWriter i f).mailboxes = s.mailboxes := rfl
@[simp] theorem State.modWriter_mailboxRead (i : DeliveryId) (f : DeliveryWriter → DeliveryWriter) (s : State) : (s.modWriter i f).mailboxRead = s.mailboxRead := rfl
@[simp] theorem State.modWriter_egress (i : DeliveryId) (f : DeliveryWriter → DeliveryWriter) (s : State) : (s.modWriter i f).egress = s.egress := rfl
@[simp] theorem State.modWriter_schedule (i : DeliveryId) (f : DeliveryWriter → DeliveryWriter) (s : State) : (s.modWriter i f).schedule = s.schedule := rfl
@[simp] theorem State.modWriter_host (i : DeliveryId) (f : DeliveryWriter → DeliveryWriter) (s : State) : (s.modWriter i f).host = s.host := rfl
@[simp] theorem State.modWriter_queues (i : DeliveryId) (f : DeliveryWriter → DeliveryWriter) (s : State) : (s.modWriter i f).queues = s.queues := rfl
@[simp] theorem State.modWriter_fetchers (i : DeliveryId) (f : DeliveryWriter → DeliveryWriter) (s : State) : (s.modWriter i f).fetchers = s.fetchers := rfl
@[simp] theorem State.modWriter_status (i : DeliveryId) (f : DeliveryWriter → DeliveryWriter) (s : State) : (s.modWriter i f).status = s.status := rfl
@[simp] theorem State.modWriter_notices (i : DeliveryId) (f : DeliveryWriter → DeliveryWriter) (s : State) : (s.modWriter i f).notices = s.notices := rfl
@[simp] theorem State.modWriter_lost (i : DeliveryId) (f : DeliveryWriter → DeliveryWriter) (s : State) : (s.modWriter i f).lost = s.lost := rfl
@[simp] theorem State.modWriter_posted (i : DeliveryId) (f : DeliveryWriter → DeliveryWriter) (s : State) : (s.modWriter i f).posted = s.posted := rfl
@[simp] theorem State.modWriter_unit (i : DeliveryId) (f : DeliveryWriter → DeliveryWriter) (s : State) : (s.modWriter i f).unit = s.unit := rfl
@[simp] theorem State.modWriter_discarded (i : DeliveryId) (f : DeliveryWriter → DeliveryWriter) (s : State) : (s.modWriter i f).discarded = s.discarded := rfl
@[simp] theorem State.modWriter_link (i : DeliveryId) (f : DeliveryWriter → DeliveryWriter) (s : State) (j : LinkId) : (s.modWriter i f).link j = s.link j := rfl
@[simp] theorem State.modWriter_set (i : DeliveryId) (f : DeliveryWriter → DeliveryWriter) (s : State) (j : LinkId) : (s.modWriter i f).set j = s.set j := rfl
@[simp] theorem State.modWriter_queue (i : DeliveryId) (f : DeliveryWriter → DeliveryWriter) (s : State) (j : QueueId) : (s.modWriter i f).queue j = s.queue j := rfl
@[simp] theorem State.modWriter_fetcher (i : DeliveryId) (f : DeliveryWriter → DeliveryWriter) (s : State) (j : LinkId) : (s.modWriter i f).fetcher j = s.fetcher j := rfl
@[simp] theorem State.modWriter_mailbox (i : DeliveryId) (f : DeliveryWriter → DeliveryWriter) (s : State) (j : MailboxId) : (s.modWriter i f).mailbox j = s.mailbox j := rfl
@[simp] theorem State.modWriter_entry (i : DeliveryId) (f : DeliveryWriter → DeliveryWriter) (s : State) (j : ScheduleId) : (s.modWriter i f).entry j = s.entry j := rfl
@[simp] theorem State.modWriter_slot (i : DeliveryId) (f : DeliveryWriter → DeliveryWriter) (s : State) (j : SlotId) : (s.modWriter i f).slot j = s.slot j := rfl
@[simp] theorem State.modWriter_group (i : DeliveryId) (f : DeliveryWriter → DeliveryWriter) (s : State) (j : GroupId) : (s.modWriter i f).group j = s.group j := rfl
theorem State.modWriter_writer (i j : DeliveryId) (f : DeliveryWriter → DeliveryWriter) (s : State) :
    (s.modWriter i f).writer j = if j = i then f (s.writer j) else s.writer j := by
  simp only [State.writer, State.modWriter]; exact update_get _ _ _ _
@[simp] theorem State.modWriter_writer_self (i : DeliveryId) (f : DeliveryWriter → DeliveryWriter) (s : State) : (s.modWriter i f).writer i = f (s.writer i) := by
  rw [State.modWriter_writer]; simp
@[simp] theorem State.modWriter_writer_ne {i j : DeliveryId} (h : j ≠ i) (f : DeliveryWriter → DeliveryWriter) (s : State) : (s.modWriter i f).writer j = s.writer j := by
  rw [State.modWriter_writer]; simp [h]
@[simp] theorem State.modWriter_attached (i : DeliveryId) (f : DeliveryWriter → DeliveryWriter) (s : State) : (s.modWriter i f).attached = s.attached := rfl

/-! ## modFetcher -/

@[simp] theorem State.modFetcher_pending (i : LinkId) (f : Fetcher → Fetcher) (s : State) : (s.modFetcher i f).pending = s.pending := rfl
@[simp] theorem State.modFetcher_time (i : LinkId) (f : Fetcher → Fetcher) (s : State) : (s.modFetcher i f).time = s.time := rfl
@[simp] theorem State.modFetcher_links (i : LinkId) (f : Fetcher → Fetcher) (s : State) : (s.modFetcher i f).links = s.links := rfl
@[simp] theorem State.modFetcher_store (i : LinkId) (f : Fetcher → Fetcher) (s : State) : (s.modFetcher i f).store = s.store := rfl
@[simp] theorem State.modFetcher_routing (i : LinkId) (f : Fetcher → Fetcher) (s : State) : (s.modFetcher i f).routing = s.routing := rfl
@[simp] theorem State.modFetcher_twin (i : LinkId) (f : Fetcher → Fetcher) (s : State) : (s.modFetcher i f).twin = s.twin := rfl
@[simp] theorem State.modFetcher_mailboxes (i : LinkId) (f : Fetcher → Fetcher) (s : State) : (s.modFetcher i f).mailboxes = s.mailboxes := rfl
@[simp] theorem State.modFetcher_mailboxRead (i : LinkId) (f : Fetcher → Fetcher) (s : State) : (s.modFetcher i f).mailboxRead = s.mailboxRead := rfl
@[simp] theorem State.modFetcher_egress (i : LinkId) (f : Fetcher → Fetcher) (s : State) : (s.modFetcher i f).egress = s.egress := rfl
@[simp] theorem State.modFetcher_schedule (i : LinkId) (f : Fetcher → Fetcher) (s : State) : (s.modFetcher i f).schedule = s.schedule := rfl
@[simp] theorem State.modFetcher_host (i : LinkId) (f : Fetcher → Fetcher) (s : State) : (s.modFetcher i f).host = s.host := rfl
@[simp] theorem State.modFetcher_queues (i : LinkId) (f : Fetcher → Fetcher) (s : State) : (s.modFetcher i f).queues = s.queues := rfl
@[simp] theorem State.modFetcher_delivery (i : LinkId) (f : Fetcher → Fetcher) (s : State) : (s.modFetcher i f).delivery = s.delivery := rfl
@[simp] theorem State.modFetcher_status (i : LinkId) (f : Fetcher → Fetcher) (s : State) : (s.modFetcher i f).status = s.status := rfl
@[simp] theorem State.modFetcher_notices (i : LinkId) (f : Fetcher → Fetcher) (s : State) : (s.modFetcher i f).notices = s.notices := rfl
@[simp] theorem State.modFetcher_lost (i : LinkId) (f : Fetcher → Fetcher) (s : State) : (s.modFetcher i f).lost = s.lost := rfl
@[simp] theorem State.modFetcher_posted (i : LinkId) (f : Fetcher → Fetcher) (s : State) : (s.modFetcher i f).posted = s.posted := rfl
@[simp] theorem State.modFetcher_unit (i : LinkId) (f : Fetcher → Fetcher) (s : State) : (s.modFetcher i f).unit = s.unit := rfl
@[simp] theorem State.modFetcher_discarded (i : LinkId) (f : Fetcher → Fetcher) (s : State) : (s.modFetcher i f).discarded = s.discarded := rfl
@[simp] theorem State.modFetcher_link (i : LinkId) (f : Fetcher → Fetcher) (s : State) (j : LinkId) : (s.modFetcher i f).link j = s.link j := rfl
@[simp] theorem State.modFetcher_set (i : LinkId) (f : Fetcher → Fetcher) (s : State) (j : LinkId) : (s.modFetcher i f).set j = s.set j := rfl
@[simp] theorem State.modFetcher_queue (i : LinkId) (f : Fetcher → Fetcher) (s : State) (j : QueueId) : (s.modFetcher i f).queue j = s.queue j := rfl
@[simp] theorem State.modFetcher_writer (i : LinkId) (f : Fetcher → Fetcher) (s : State) (j : DeliveryId) : (s.modFetcher i f).writer j = s.writer j := rfl
@[simp] theorem State.modFetcher_mailbox (i : LinkId) (f : Fetcher → Fetcher) (s : State) (j : MailboxId) : (s.modFetcher i f).mailbox j = s.mailbox j := rfl
@[simp] theorem State.modFetcher_entry (i : LinkId) (f : Fetcher → Fetcher) (s : State) (j : ScheduleId) : (s.modFetcher i f).entry j = s.entry j := rfl
@[simp] theorem State.modFetcher_slot (i : LinkId) (f : Fetcher → Fetcher) (s : State) (j : SlotId) : (s.modFetcher i f).slot j = s.slot j := rfl
@[simp] theorem State.modFetcher_group (i : LinkId) (f : Fetcher → Fetcher) (s : State) (j : GroupId) : (s.modFetcher i f).group j = s.group j := rfl
theorem State.modFetcher_fetcher (i j : LinkId) (f : Fetcher → Fetcher) (s : State) :
    (s.modFetcher i f).fetcher j = if j = i then f (s.fetcher j) else s.fetcher j := by
  simp only [State.fetcher, State.modFetcher]; exact update_get _ _ _ _
@[simp] theorem State.modFetcher_fetcher_self (i : LinkId) (f : Fetcher → Fetcher) (s : State) : (s.modFetcher i f).fetcher i = f (s.fetcher i) := by
  rw [State.modFetcher_fetcher]; simp
@[simp] theorem State.modFetcher_fetcher_ne {i j : LinkId} (h : j ≠ i) (f : Fetcher → Fetcher) (s : State) : (s.modFetcher i f).fetcher j = s.fetcher j := by
  rw [State.modFetcher_fetcher]; simp [h]
@[simp] theorem State.modFetcher_attached (i : LinkId) (f : Fetcher → Fetcher) (s : State) : (s.modFetcher i f).attached = s.attached := rfl

/-! ## modMailbox -/

@[simp] theorem State.modMailbox_pending (i : MailboxId) (f : Mailbox → Mailbox) (s : State) : (s.modMailbox i f).pending = s.pending := rfl
@[simp] theorem State.modMailbox_time (i : MailboxId) (f : Mailbox → Mailbox) (s : State) : (s.modMailbox i f).time = s.time := rfl
@[simp] theorem State.modMailbox_links (i : MailboxId) (f : Mailbox → Mailbox) (s : State) : (s.modMailbox i f).links = s.links := rfl
@[simp] theorem State.modMailbox_store (i : MailboxId) (f : Mailbox → Mailbox) (s : State) : (s.modMailbox i f).store = s.store := rfl
@[simp] theorem State.modMailbox_routing (i : MailboxId) (f : Mailbox → Mailbox) (s : State) : (s.modMailbox i f).routing = s.routing := rfl
@[simp] theorem State.modMailbox_twin (i : MailboxId) (f : Mailbox → Mailbox) (s : State) : (s.modMailbox i f).twin = s.twin := rfl
@[simp] theorem State.modMailbox_mailboxRead (i : MailboxId) (f : Mailbox → Mailbox) (s : State) : (s.modMailbox i f).mailboxRead = s.mailboxRead := rfl
@[simp] theorem State.modMailbox_egress (i : MailboxId) (f : Mailbox → Mailbox) (s : State) : (s.modMailbox i f).egress = s.egress := rfl
@[simp] theorem State.modMailbox_schedule (i : MailboxId) (f : Mailbox → Mailbox) (s : State) : (s.modMailbox i f).schedule = s.schedule := rfl
@[simp] theorem State.modMailbox_host (i : MailboxId) (f : Mailbox → Mailbox) (s : State) : (s.modMailbox i f).host = s.host := rfl
@[simp] theorem State.modMailbox_queues (i : MailboxId) (f : Mailbox → Mailbox) (s : State) : (s.modMailbox i f).queues = s.queues := rfl
@[simp] theorem State.modMailbox_delivery (i : MailboxId) (f : Mailbox → Mailbox) (s : State) : (s.modMailbox i f).delivery = s.delivery := rfl
@[simp] theorem State.modMailbox_fetchers (i : MailboxId) (f : Mailbox → Mailbox) (s : State) : (s.modMailbox i f).fetchers = s.fetchers := rfl
@[simp] theorem State.modMailbox_status (i : MailboxId) (f : Mailbox → Mailbox) (s : State) : (s.modMailbox i f).status = s.status := rfl
@[simp] theorem State.modMailbox_notices (i : MailboxId) (f : Mailbox → Mailbox) (s : State) : (s.modMailbox i f).notices = s.notices := rfl
@[simp] theorem State.modMailbox_lost (i : MailboxId) (f : Mailbox → Mailbox) (s : State) : (s.modMailbox i f).lost = s.lost := rfl
@[simp] theorem State.modMailbox_posted (i : MailboxId) (f : Mailbox → Mailbox) (s : State) : (s.modMailbox i f).posted = s.posted := rfl
@[simp] theorem State.modMailbox_unit (i : MailboxId) (f : Mailbox → Mailbox) (s : State) : (s.modMailbox i f).unit = s.unit := rfl
@[simp] theorem State.modMailbox_discarded (i : MailboxId) (f : Mailbox → Mailbox) (s : State) : (s.modMailbox i f).discarded = s.discarded := rfl
@[simp] theorem State.modMailbox_link (i : MailboxId) (f : Mailbox → Mailbox) (s : State) (j : LinkId) : (s.modMailbox i f).link j = s.link j := rfl
@[simp] theorem State.modMailbox_set (i : MailboxId) (f : Mailbox → Mailbox) (s : State) (j : LinkId) : (s.modMailbox i f).set j = s.set j := rfl
@[simp] theorem State.modMailbox_queue (i : MailboxId) (f : Mailbox → Mailbox) (s : State) (j : QueueId) : (s.modMailbox i f).queue j = s.queue j := rfl
@[simp] theorem State.modMailbox_writer (i : MailboxId) (f : Mailbox → Mailbox) (s : State) (j : DeliveryId) : (s.modMailbox i f).writer j = s.writer j := rfl
@[simp] theorem State.modMailbox_fetcher (i : MailboxId) (f : Mailbox → Mailbox) (s : State) (j : LinkId) : (s.modMailbox i f).fetcher j = s.fetcher j := rfl
@[simp] theorem State.modMailbox_entry (i : MailboxId) (f : Mailbox → Mailbox) (s : State) (j : ScheduleId) : (s.modMailbox i f).entry j = s.entry j := rfl
@[simp] theorem State.modMailbox_slot (i : MailboxId) (f : Mailbox → Mailbox) (s : State) (j : SlotId) : (s.modMailbox i f).slot j = s.slot j := rfl
@[simp] theorem State.modMailbox_group (i : MailboxId) (f : Mailbox → Mailbox) (s : State) (j : GroupId) : (s.modMailbox i f).group j = s.group j := rfl
theorem State.modMailbox_mailbox (i j : MailboxId) (f : Mailbox → Mailbox) (s : State) :
    (s.modMailbox i f).mailbox j = if j = i then f (s.mailbox j) else s.mailbox j := by
  simp only [State.mailbox, State.modMailbox]; exact update_get _ _ _ _
@[simp] theorem State.modMailbox_mailbox_self (i : MailboxId) (f : Mailbox → Mailbox) (s : State) : (s.modMailbox i f).mailbox i = f (s.mailbox i) := by
  rw [State.modMailbox_mailbox]; simp
@[simp] theorem State.modMailbox_mailbox_ne {i j : MailboxId} (h : j ≠ i) (f : Mailbox → Mailbox) (s : State) : (s.modMailbox i f).mailbox j = s.mailbox j := by
  rw [State.modMailbox_mailbox]; simp [h]
@[simp] theorem State.modMailbox_attached (i : MailboxId) (f : Mailbox → Mailbox) (s : State) : (s.modMailbox i f).attached = s.attached := rfl

/-! ## modEntry -/

@[simp] theorem State.modEntry_pending (i : ScheduleId) (f : ScheduleEntry → ScheduleEntry) (s : State) : (s.modEntry i f).pending = s.pending := rfl
@[simp] theorem State.modEntry_time (i : ScheduleId) (f : ScheduleEntry → ScheduleEntry) (s : State) : (s.modEntry i f).time = s.time := rfl
@[simp] theorem State.modEntry_links (i : ScheduleId) (f : ScheduleEntry → ScheduleEntry) (s : State) : (s.modEntry i f).links = s.links := rfl
@[simp] theorem State.modEntry_store (i : ScheduleId) (f : ScheduleEntry → ScheduleEntry) (s : State) : (s.modEntry i f).store = s.store := rfl
@[simp] theorem State.modEntry_routing (i : ScheduleId) (f : ScheduleEntry → ScheduleEntry) (s : State) : (s.modEntry i f).routing = s.routing := rfl
@[simp] theorem State.modEntry_twin (i : ScheduleId) (f : ScheduleEntry → ScheduleEntry) (s : State) : (s.modEntry i f).twin = s.twin := rfl
@[simp] theorem State.modEntry_mailboxes (i : ScheduleId) (f : ScheduleEntry → ScheduleEntry) (s : State) : (s.modEntry i f).mailboxes = s.mailboxes := rfl
@[simp] theorem State.modEntry_mailboxRead (i : ScheduleId) (f : ScheduleEntry → ScheduleEntry) (s : State) : (s.modEntry i f).mailboxRead = s.mailboxRead := rfl
@[simp] theorem State.modEntry_egress (i : ScheduleId) (f : ScheduleEntry → ScheduleEntry) (s : State) : (s.modEntry i f).egress = s.egress := rfl
@[simp] theorem State.modEntry_host (i : ScheduleId) (f : ScheduleEntry → ScheduleEntry) (s : State) : (s.modEntry i f).host = s.host := rfl
@[simp] theorem State.modEntry_queues (i : ScheduleId) (f : ScheduleEntry → ScheduleEntry) (s : State) : (s.modEntry i f).queues = s.queues := rfl
@[simp] theorem State.modEntry_delivery (i : ScheduleId) (f : ScheduleEntry → ScheduleEntry) (s : State) : (s.modEntry i f).delivery = s.delivery := rfl
@[simp] theorem State.modEntry_fetchers (i : ScheduleId) (f : ScheduleEntry → ScheduleEntry) (s : State) : (s.modEntry i f).fetchers = s.fetchers := rfl
@[simp] theorem State.modEntry_status (i : ScheduleId) (f : ScheduleEntry → ScheduleEntry) (s : State) : (s.modEntry i f).status = s.status := rfl
@[simp] theorem State.modEntry_notices (i : ScheduleId) (f : ScheduleEntry → ScheduleEntry) (s : State) : (s.modEntry i f).notices = s.notices := rfl
@[simp] theorem State.modEntry_lost (i : ScheduleId) (f : ScheduleEntry → ScheduleEntry) (s : State) : (s.modEntry i f).lost = s.lost := rfl
@[simp] theorem State.modEntry_posted (i : ScheduleId) (f : ScheduleEntry → ScheduleEntry) (s : State) : (s.modEntry i f).posted = s.posted := rfl
@[simp] theorem State.modEntry_unit (i : ScheduleId) (f : ScheduleEntry → ScheduleEntry) (s : State) : (s.modEntry i f).unit = s.unit := rfl
@[simp] theorem State.modEntry_discarded (i : ScheduleId) (f : ScheduleEntry → ScheduleEntry) (s : State) : (s.modEntry i f).discarded = s.discarded := rfl
@[simp] theorem State.modEntry_link (i : ScheduleId) (f : ScheduleEntry → ScheduleEntry) (s : State) (j : LinkId) : (s.modEntry i f).link j = s.link j := rfl
@[simp] theorem State.modEntry_set (i : ScheduleId) (f : ScheduleEntry → ScheduleEntry) (s : State) (j : LinkId) : (s.modEntry i f).set j = s.set j := rfl
@[simp] theorem State.modEntry_queue (i : ScheduleId) (f : ScheduleEntry → ScheduleEntry) (s : State) (j : QueueId) : (s.modEntry i f).queue j = s.queue j := rfl
@[simp] theorem State.modEntry_writer (i : ScheduleId) (f : ScheduleEntry → ScheduleEntry) (s : State) (j : DeliveryId) : (s.modEntry i f).writer j = s.writer j := rfl
@[simp] theorem State.modEntry_fetcher (i : ScheduleId) (f : ScheduleEntry → ScheduleEntry) (s : State) (j : LinkId) : (s.modEntry i f).fetcher j = s.fetcher j := rfl
@[simp] theorem State.modEntry_mailbox (i : ScheduleId) (f : ScheduleEntry → ScheduleEntry) (s : State) (j : MailboxId) : (s.modEntry i f).mailbox j = s.mailbox j := rfl
@[simp] theorem State.modEntry_slot (i : ScheduleId) (f : ScheduleEntry → ScheduleEntry) (s : State) (j : SlotId) : (s.modEntry i f).slot j = s.slot j := rfl
@[simp] theorem State.modEntry_group (i : ScheduleId) (f : ScheduleEntry → ScheduleEntry) (s : State) (j : GroupId) : (s.modEntry i f).group j = s.group j := rfl
theorem State.modEntry_entry (i j : ScheduleId) (f : ScheduleEntry → ScheduleEntry) (s : State) :
    (s.modEntry i f).entry j = if j = i then f (s.entry j) else s.entry j := by
  simp only [State.entry, State.modEntry]; exact update_get _ _ _ _
@[simp] theorem State.modEntry_entry_self (i : ScheduleId) (f : ScheduleEntry → ScheduleEntry) (s : State) : (s.modEntry i f).entry i = f (s.entry i) := by
  rw [State.modEntry_entry]; simp
@[simp] theorem State.modEntry_entry_ne {i j : ScheduleId} (h : j ≠ i) (f : ScheduleEntry → ScheduleEntry) (s : State) : (s.modEntry i f).entry j = s.entry j := by
  rw [State.modEntry_entry]; simp [h]
@[simp] theorem State.modEntry_attached (i : ScheduleId) (f : ScheduleEntry → ScheduleEntry) (s : State) : (s.modEntry i f).attached = s.attached := rfl

/-! ## modSlot -/

@[simp] theorem State.modSlot_pending (i : SlotId) (f : Slot → Slot) (s : State) : (s.modSlot i f).pending = s.pending := rfl
@[simp] theorem State.modSlot_time (i : SlotId) (f : Slot → Slot) (s : State) : (s.modSlot i f).time = s.time := rfl
@[simp] theorem State.modSlot_links (i : SlotId) (f : Slot → Slot) (s : State) : (s.modSlot i f).links = s.links := rfl
@[simp] theorem State.modSlot_routing (i : SlotId) (f : Slot → Slot) (s : State) : (s.modSlot i f).routing = s.routing := rfl
@[simp] theorem State.modSlot_twin (i : SlotId) (f : Slot → Slot) (s : State) : (s.modSlot i f).twin = s.twin := rfl
@[simp] theorem State.modSlot_mailboxes (i : SlotId) (f : Slot → Slot) (s : State) : (s.modSlot i f).mailboxes = s.mailboxes := rfl
@[simp] theorem State.modSlot_mailboxRead (i : SlotId) (f : Slot → Slot) (s : State) : (s.modSlot i f).mailboxRead = s.mailboxRead := rfl
@[simp] theorem State.modSlot_egress (i : SlotId) (f : Slot → Slot) (s : State) : (s.modSlot i f).egress = s.egress := rfl
@[simp] theorem State.modSlot_schedule (i : SlotId) (f : Slot → Slot) (s : State) : (s.modSlot i f).schedule = s.schedule := rfl
@[simp] theorem State.modSlot_host (i : SlotId) (f : Slot → Slot) (s : State) : (s.modSlot i f).host = s.host := rfl
@[simp] theorem State.modSlot_queues (i : SlotId) (f : Slot → Slot) (s : State) : (s.modSlot i f).queues = s.queues := rfl
@[simp] theorem State.modSlot_delivery (i : SlotId) (f : Slot → Slot) (s : State) : (s.modSlot i f).delivery = s.delivery := rfl
@[simp] theorem State.modSlot_fetchers (i : SlotId) (f : Slot → Slot) (s : State) : (s.modSlot i f).fetchers = s.fetchers := rfl
@[simp] theorem State.modSlot_status (i : SlotId) (f : Slot → Slot) (s : State) : (s.modSlot i f).status = s.status := rfl
@[simp] theorem State.modSlot_notices (i : SlotId) (f : Slot → Slot) (s : State) : (s.modSlot i f).notices = s.notices := rfl
@[simp] theorem State.modSlot_lost (i : SlotId) (f : Slot → Slot) (s : State) : (s.modSlot i f).lost = s.lost := rfl
@[simp] theorem State.modSlot_posted (i : SlotId) (f : Slot → Slot) (s : State) : (s.modSlot i f).posted = s.posted := rfl
@[simp] theorem State.modSlot_unit (i : SlotId) (f : Slot → Slot) (s : State) : (s.modSlot i f).unit = s.unit := rfl
@[simp] theorem State.modSlot_discarded (i : SlotId) (f : Slot → Slot) (s : State) : (s.modSlot i f).discarded = s.discarded := rfl
@[simp] theorem State.modSlot_reserve (i : SlotId) (f : Slot → Slot) (s : State) : (s.modSlot i f).store.reserve = s.store.reserve := rfl
@[simp] theorem State.modSlot_waiters (i : SlotId) (f : Slot → Slot) (s : State) : (s.modSlot i f).store.waiters = s.store.waiters := rfl
@[simp] theorem State.modSlot_link (i : SlotId) (f : Slot → Slot) (s : State) (j : LinkId) : (s.modSlot i f).link j = s.link j := rfl
@[simp] theorem State.modSlot_set (i : SlotId) (f : Slot → Slot) (s : State) (j : LinkId) : (s.modSlot i f).set j = s.set j := rfl
@[simp] theorem State.modSlot_queue (i : SlotId) (f : Slot → Slot) (s : State) (j : QueueId) : (s.modSlot i f).queue j = s.queue j := rfl
@[simp] theorem State.modSlot_writer (i : SlotId) (f : Slot → Slot) (s : State) (j : DeliveryId) : (s.modSlot i f).writer j = s.writer j := rfl
@[simp] theorem State.modSlot_fetcher (i : SlotId) (f : Slot → Slot) (s : State) (j : LinkId) : (s.modSlot i f).fetcher j = s.fetcher j := rfl
@[simp] theorem State.modSlot_mailbox (i : SlotId) (f : Slot → Slot) (s : State) (j : MailboxId) : (s.modSlot i f).mailbox j = s.mailbox j := rfl
@[simp] theorem State.modSlot_entry (i : SlotId) (f : Slot → Slot) (s : State) (j : ScheduleId) : (s.modSlot i f).entry j = s.entry j := rfl
@[simp] theorem State.modSlot_group (i : SlotId) (f : Slot → Slot) (s : State) (j : GroupId) : (s.modSlot i f).group j = s.group j := rfl
theorem State.modSlot_slot (i j : SlotId) (f : Slot → Slot) (s : State) :
    (s.modSlot i f).slot j = if j = i then f (s.slot j) else s.slot j := by
  simp only [State.slot, State.modSlot]; exact update_get _ _ _ _
@[simp] theorem State.modSlot_slot_self (i : SlotId) (f : Slot → Slot) (s : State) : (s.modSlot i f).slot i = f (s.slot i) := by
  rw [State.modSlot_slot]; simp
@[simp] theorem State.modSlot_slot_ne {i j : SlotId} (h : j ≠ i) (f : Slot → Slot) (s : State) : (s.modSlot i f).slot j = s.slot j := by
  rw [State.modSlot_slot]; simp [h]
@[simp] theorem State.modSlot_attached (i : SlotId) (f : Slot → Slot) (s : State) : (s.modSlot i f).attached = s.attached := rfl

/-! ## modGroup -/

@[simp] theorem State.modGroup_pending (i : GroupId) (f : TwinGroup → TwinGroup) (s : State) : (s.modGroup i f).pending = s.pending := rfl
@[simp] theorem State.modGroup_time (i : GroupId) (f : TwinGroup → TwinGroup) (s : State) : (s.modGroup i f).time = s.time := rfl
@[simp] theorem State.modGroup_links (i : GroupId) (f : TwinGroup → TwinGroup) (s : State) : (s.modGroup i f).links = s.links := rfl
@[simp] theorem State.modGroup_store (i : GroupId) (f : TwinGroup → TwinGroup) (s : State) : (s.modGroup i f).store = s.store := rfl
@[simp] theorem State.modGroup_routing (i : GroupId) (f : TwinGroup → TwinGroup) (s : State) : (s.modGroup i f).routing = s.routing := rfl
@[simp] theorem State.modGroup_mailboxes (i : GroupId) (f : TwinGroup → TwinGroup) (s : State) : (s.modGroup i f).mailboxes = s.mailboxes := rfl
@[simp] theorem State.modGroup_mailboxRead (i : GroupId) (f : TwinGroup → TwinGroup) (s : State) : (s.modGroup i f).mailboxRead = s.mailboxRead := rfl
@[simp] theorem State.modGroup_egress (i : GroupId) (f : TwinGroup → TwinGroup) (s : State) : (s.modGroup i f).egress = s.egress := rfl
@[simp] theorem State.modGroup_schedule (i : GroupId) (f : TwinGroup → TwinGroup) (s : State) : (s.modGroup i f).schedule = s.schedule := rfl
@[simp] theorem State.modGroup_host (i : GroupId) (f : TwinGroup → TwinGroup) (s : State) : (s.modGroup i f).host = s.host := rfl
@[simp] theorem State.modGroup_queues (i : GroupId) (f : TwinGroup → TwinGroup) (s : State) : (s.modGroup i f).queues = s.queues := rfl
@[simp] theorem State.modGroup_delivery (i : GroupId) (f : TwinGroup → TwinGroup) (s : State) : (s.modGroup i f).delivery = s.delivery := rfl
@[simp] theorem State.modGroup_fetchers (i : GroupId) (f : TwinGroup → TwinGroup) (s : State) : (s.modGroup i f).fetchers = s.fetchers := rfl
@[simp] theorem State.modGroup_status (i : GroupId) (f : TwinGroup → TwinGroup) (s : State) : (s.modGroup i f).status = s.status := rfl
@[simp] theorem State.modGroup_notices (i : GroupId) (f : TwinGroup → TwinGroup) (s : State) : (s.modGroup i f).notices = s.notices := rfl
@[simp] theorem State.modGroup_lost (i : GroupId) (f : TwinGroup → TwinGroup) (s : State) : (s.modGroup i f).lost = s.lost := rfl
@[simp] theorem State.modGroup_posted (i : GroupId) (f : TwinGroup → TwinGroup) (s : State) : (s.modGroup i f).posted = s.posted := rfl
@[simp] theorem State.modGroup_unit (i : GroupId) (f : TwinGroup → TwinGroup) (s : State) : (s.modGroup i f).unit = s.unit := rfl
@[simp] theorem State.modGroup_discarded (i : GroupId) (f : TwinGroup → TwinGroup) (s : State) : (s.modGroup i f).discarded = s.discarded := rfl
@[simp] theorem State.modGroup_table (i : GroupId) (f : TwinGroup → TwinGroup) (s : State) : (s.modGroup i f).twin.table = s.twin.table := rfl
@[simp] theorem State.modGroup_link (i : GroupId) (f : TwinGroup → TwinGroup) (s : State) (j : LinkId) : (s.modGroup i f).link j = s.link j := rfl
@[simp] theorem State.modGroup_set (i : GroupId) (f : TwinGroup → TwinGroup) (s : State) (j : LinkId) : (s.modGroup i f).set j = s.set j := rfl
@[simp] theorem State.modGroup_queue (i : GroupId) (f : TwinGroup → TwinGroup) (s : State) (j : QueueId) : (s.modGroup i f).queue j = s.queue j := rfl
@[simp] theorem State.modGroup_writer (i : GroupId) (f : TwinGroup → TwinGroup) (s : State) (j : DeliveryId) : (s.modGroup i f).writer j = s.writer j := rfl
@[simp] theorem State.modGroup_fetcher (i : GroupId) (f : TwinGroup → TwinGroup) (s : State) (j : LinkId) : (s.modGroup i f).fetcher j = s.fetcher j := rfl
@[simp] theorem State.modGroup_mailbox (i : GroupId) (f : TwinGroup → TwinGroup) (s : State) (j : MailboxId) : (s.modGroup i f).mailbox j = s.mailbox j := rfl
@[simp] theorem State.modGroup_entry (i : GroupId) (f : TwinGroup → TwinGroup) (s : State) (j : ScheduleId) : (s.modGroup i f).entry j = s.entry j := rfl
@[simp] theorem State.modGroup_slot (i : GroupId) (f : TwinGroup → TwinGroup) (s : State) (j : SlotId) : (s.modGroup i f).slot j = s.slot j := rfl
theorem State.modGroup_group (i j : GroupId) (f : TwinGroup → TwinGroup) (s : State) :
    (s.modGroup i f).group j = if j = i then f (s.group j) else s.group j := by
  simp only [State.group, State.modGroup]; exact update_get _ _ _ _
@[simp] theorem State.modGroup_group_self (i : GroupId) (f : TwinGroup → TwinGroup) (s : State) : (s.modGroup i f).group i = f (s.group i) := by
  rw [State.modGroup_group]; simp
@[simp] theorem State.modGroup_group_ne {i j : GroupId} (h : j ≠ i) (f : TwinGroup → TwinGroup) (s : State) : (s.modGroup i f).group j = s.group j := by
  rw [State.modGroup_group]; simp [h]
@[simp] theorem State.modGroup_attached (i : GroupId) (f : TwinGroup → TwinGroup) (s : State) : (s.modGroup i f).attached = s.attached := rfl

end Sys2Proof.Machine
end

