-- ==== Sys2Proof/Laws/Ops.lean ====
section
/-! SUPPORT. What each shared operation can do: the parts of the state it leaves alone, one lemma per field, and what it does to the
rest. -/

namespace Sys2Proof.Machine

/-! ## post -/

@[simp] theorem post_frame (b : NoticeBody) (s : State) :
    (post b s).pending = s.pending ∧ (post b s).time = s.time ∧ (post b s).links = s.links ∧ (post b s).store = s.store ∧
      (post b s).routing = s.routing ∧ (post b s).twin = s.twin ∧ (post b s).mailboxes = s.mailboxes ∧
      (post b s).mailboxRead = s.mailboxRead ∧ (post b s).egress = s.egress ∧ (post b s).schedule = s.schedule ∧
      (post b s).host = s.host ∧ (post b s).queues = s.queues ∧ (post b s).delivery = s.delivery ∧
      (post b s).fetchers = s.fetchers ∧ (post b s).status = s.status ∧ (post b s).notices = s.notices ∧
      (post b s).lost = s.lost ∧ (post b s).unit = s.unit ∧ (post b s).discarded = s.discarded :=
  ⟨rfl, rfl, rfl, rfl, rfl, rfl, rfl, rfl, rfl, rfl, rfl, rfl, rfl, rfl, rfl, rfl, rfl, rfl, rfl⟩

@[simp] theorem post_posted (b : NoticeBody) (s : State) : (post b s).posted = s.posted ++ [{ body := b, time := s.time }] := rfl

/-! ## postIf -/

@[simp] theorem postIf_frame (p : Bool) (b : NoticeBody) (s : State) :
    (postIf p b s).pending = s.pending ∧ (postIf p b s).time = s.time ∧ (postIf p b s).links = s.links ∧
      (postIf p b s).store = s.store ∧ (postIf p b s).routing = s.routing ∧ (postIf p b s).twin = s.twin ∧
      (postIf p b s).mailboxes = s.mailboxes ∧ (postIf p b s).mailboxRead = s.mailboxRead ∧ (postIf p b s).egress = s.egress ∧
      (postIf p b s).schedule = s.schedule ∧ (postIf p b s).host = s.host ∧ (postIf p b s).queues = s.queues ∧
      (postIf p b s).delivery = s.delivery ∧ (postIf p b s).fetchers = s.fetchers ∧ (postIf p b s).status = s.status ∧
      (postIf p b s).notices = s.notices ∧ (postIf p b s).lost = s.lost ∧ (postIf p b s).unit = s.unit ∧
      (postIf p b s).discarded = s.discarded := by
  unfold postIf
  repeat' split
  all_goals simp

/-- A notice under a report bit is posted exactly when the bit is set (R34). -/
theorem postIf_posted (p : Bool) (b : NoticeBody) (s : State) :
    (postIf p b s).posted = s.posted ++ (if p then [{ body := b, time := s.time }] else []) := by
  unfold postIf; cases p <;> simp

/-! ## handCompletion -/

@[simp] theorem handCompletion_frame (c : Completion) (s : State) :
    (handCompletion c s).pending = s.pending ∧ (handCompletion c s).time = s.time ∧ (handCompletion c s).links = s.links ∧
      (handCompletion c s).store = s.store ∧ (handCompletion c s).routing = s.routing ∧ (handCompletion c s).twin = s.twin ∧
      (handCompletion c s).mailboxes = s.mailboxes ∧ (handCompletion c s).mailboxRead = s.mailboxRead ∧
      (handCompletion c s).egress = s.egress ∧ (handCompletion c s).schedule = s.schedule ∧
      (handCompletion c s).host = s.host ∧ (handCompletion c s).queues = s.queues ∧
      (handCompletion c s).delivery = s.delivery ∧ (handCompletion c s).fetchers = s.fetchers ∧
      (handCompletion c s).notices = s.notices ∧ (handCompletion c s).lost = s.lost ∧ (handCompletion c s).posted = s.posted ∧
      (handCompletion c s).unit = s.unit ∧ (handCompletion c s).discarded = s.discarded := by
  unfold handCompletion
  repeat' split
  all_goals simp

/-- A completion joins the FIFO exactly while the device is ATTACHED (R136, R143). -/
theorem handCompletion_status (c : Completion) (s : State) :
    (handCompletion c s).status = { s.status with completions := s.status.completions ++ (if s.attached then [c] else []) } := by
  unfold handCompletion; cases s.attached <;> simp

/-! ## proceedWithCredit -/

@[simp] theorem proceedWithCredit_frame (r : Requester) (s : State) :
    (proceedWithCredit r s).pending = s.pending ∧ (proceedWithCredit r s).time = s.time ∧
      (proceedWithCredit r s).links = s.links ∧ (proceedWithCredit r s).store = s.store ∧
      (proceedWithCredit r s).routing = s.routing ∧ (proceedWithCredit r s).twin = s.twin ∧
      (proceedWithCredit r s).mailboxes = s.mailboxes ∧ (proceedWithCredit r s).mailboxRead = s.mailboxRead ∧
      (proceedWithCredit r s).egress = s.egress ∧ (proceedWithCredit r s).schedule = s.schedule ∧
      (proceedWithCredit r s).host = s.host ∧ (proceedWithCredit r s).queues = s.queues ∧
      (proceedWithCredit r s).delivery = s.delivery ∧ (proceedWithCredit r s).status = s.status ∧
      (proceedWithCredit r s).notices = s.notices ∧ (proceedWithCredit r s).lost = s.lost ∧
      (proceedWithCredit r s).posted = s.posted ∧ (proceedWithCredit r s).discarded = s.discarded := by
  unfold proceedWithCredit
  repeat' split
  all_goals simp

/-! ## grantCredit -/

@[simp] theorem grantCredit_frame (r : Requester) (s : State) :
    (grantCredit r s).pending = s.pending ∧ (grantCredit r s).time = s.time ∧ (grantCredit r s).links = s.links ∧
      (grantCredit r s).store = s.store ∧ (grantCredit r s).routing = s.routing ∧ (grantCredit r s).twin = s.twin ∧
      (grantCredit r s).mailboxes = s.mailboxes ∧ (grantCredit r s).mailboxRead = s.mailboxRead ∧
      (grantCredit r s).egress = s.egress ∧ (grantCredit r s).schedule = s.schedule ∧ (grantCredit r s).host = s.host ∧
      (grantCredit r s).queues = s.queues ∧ (grantCredit r s).delivery = s.delivery ∧ (grantCredit r s).notices = s.notices ∧
      (grantCredit r s).lost = s.lost ∧ (grantCredit r s).posted = s.posted ∧ (grantCredit r s).discarded = s.discarded := by
  simp [grantCredit]

/-! ## grantWaiters -/

@[simp] theorem grantWaiters_frame (ws : List Requester) (s : State) :
    (grantWaiters ws s).pending = s.pending ∧ (grantWaiters ws s).time = s.time ∧ (grantWaiters ws s).links = s.links ∧
      (grantWaiters ws s).store = s.store ∧ (grantWaiters ws s).routing = s.routing ∧ (grantWaiters ws s).twin = s.twin ∧
      (grantWaiters ws s).mailboxes = s.mailboxes ∧ (grantWaiters ws s).mailboxRead = s.mailboxRead ∧
      (grantWaiters ws s).egress = s.egress ∧ (grantWaiters ws s).schedule = s.schedule ∧ (grantWaiters ws s).host = s.host ∧
      (grantWaiters ws s).queues = s.queues ∧ (grantWaiters ws s).delivery = s.delivery ∧
      (grantWaiters ws s).notices = s.notices ∧ (grantWaiters ws s).lost = s.lost ∧ (grantWaiters ws s).posted = s.posted ∧
      (grantWaiters ws s).discarded = s.discarded := by
  induction ws generalizing s with
  | nil => simp [grantWaiters]
  | cons r rest ih => unfold grantWaiters; split <;> simp [ih]

/-! ## serveCredits -/

@[simp] theorem serveCredits_frame  (s : State) :
    (serveCredits s).pending = s.pending ∧ (serveCredits s).time = s.time ∧ (serveCredits s).links = s.links ∧
      (serveCredits s).store = s.store ∧ (serveCredits s).routing = s.routing ∧ (serveCredits s).twin = s.twin ∧
      (serveCredits s).mailboxes = s.mailboxes ∧ (serveCredits s).mailboxRead = s.mailboxRead ∧
      (serveCredits s).egress = s.egress ∧ (serveCredits s).schedule = s.schedule ∧ (serveCredits s).host = s.host ∧
      (serveCredits s).queues = s.queues ∧ (serveCredits s).delivery = s.delivery ∧ (serveCredits s).notices = s.notices ∧
      (serveCredits s).lost = s.lost ∧ (serveCredits s).posted = s.posted ∧ (serveCredits s).discarded = s.discarded := by
  simp [serveCredits]

/-! ## giveBackCredit -/

@[simp] theorem giveBackCredit_frame  (s : State) :
    (giveBackCredit s).pending = s.pending ∧ (giveBackCredit s).time = s.time ∧ (giveBackCredit s).links = s.links ∧
      (giveBackCredit s).store = s.store ∧ (giveBackCredit s).routing = s.routing ∧ (giveBackCredit s).twin = s.twin ∧
      (giveBackCredit s).mailboxes = s.mailboxes ∧ (giveBackCredit s).mailboxRead = s.mailboxRead ∧
      (giveBackCredit s).egress = s.egress ∧ (giveBackCredit s).schedule = s.schedule ∧ (giveBackCredit s).host = s.host ∧
      (giveBackCredit s).queues = s.queues ∧ (giveBackCredit s).delivery = s.delivery ∧
      (giveBackCredit s).notices = s.notices ∧ (giveBackCredit s).lost = s.lost ∧ (giveBackCredit s).posted = s.posted ∧
      (giveBackCredit s).discarded = s.discarded := by
  simp [giveBackCredit]

/-! ## leaveCreditWaiters -/

@[simp] theorem leaveCreditWaiters_frame (r : Requester) (s : State) :
    (leaveCreditWaiters r s).pending = s.pending ∧ (leaveCreditWaiters r s).time = s.time ∧
      (leaveCreditWaiters r s).links = s.links ∧ (leaveCreditWaiters r s).store = s.store ∧
      (leaveCreditWaiters r s).routing = s.routing ∧ (leaveCreditWaiters r s).twin = s.twin ∧
      (leaveCreditWaiters r s).mailboxes = s.mailboxes ∧ (leaveCreditWaiters r s).mailboxRead = s.mailboxRead ∧
      (leaveCreditWaiters r s).egress = s.egress ∧ (leaveCreditWaiters r s).schedule = s.schedule ∧
      (leaveCreditWaiters r s).host = s.host ∧ (leaveCreditWaiters r s).queues = s.queues ∧
      (leaveCreditWaiters r s).delivery = s.delivery ∧ (leaveCreditWaiters r s).fetchers = s.fetchers ∧
      (leaveCreditWaiters r s).notices = s.notices ∧ (leaveCreditWaiters r s).lost = s.lost ∧
      (leaveCreditWaiters r s).posted = s.posted ∧ (leaveCreditWaiters r s).unit = s.unit ∧
      (leaveCreditWaiters r s).discarded = s.discarded :=
  ⟨rfl, rfl, rfl, rfl, rfl, rfl, rfl, rfl, rfl, rfl, rfl, rfl, rfl, rfl, rfl, rfl, rfl, rfl, rfl⟩

/-! ## grantSlot -/

@[simp] theorem grantSlot_frame (i : SlotId) (s : State) :
    (grantSlot i s).pending = s.pending ∧ (grantSlot i s).time = s.time ∧ (grantSlot i s).links = s.links ∧
      (grantSlot i s).routing = s.routing ∧ (grantSlot i s).twin = s.twin ∧ (grantSlot i s).mailboxes = s.mailboxes ∧
      (grantSlot i s).mailboxRead = s.mailboxRead ∧ (grantSlot i s).egress = s.egress ∧ (grantSlot i s).schedule = s.schedule ∧
      (grantSlot i s).host = s.host ∧ (grantSlot i s).queues = s.queues ∧ (grantSlot i s).delivery = s.delivery ∧
      (grantSlot i s).fetchers = s.fetchers ∧ (grantSlot i s).status = s.status ∧ (grantSlot i s).notices = s.notices ∧
      (grantSlot i s).lost = s.lost ∧ (grantSlot i s).posted = s.posted ∧ (grantSlot i s).unit = s.unit ∧
      (grantSlot i s).discarded = s.discarded :=
  ⟨rfl, rfl, rfl, rfl, rfl, rfl, rfl, rfl, rfl, rfl, rfl, rfl, rfl, rfl, rfl, rfl, rfl, rfl, rfl⟩

/-! ## fillSlot -/

@[simp] theorem fillSlot_frame (i : SlotId) (f : Frame) (s : State) :
    (fillSlot i f s).pending = s.pending ∧ (fillSlot i f s).time = s.time ∧ (fillSlot i f s).links = s.links ∧
      (fillSlot i f s).routing = s.routing ∧ (fillSlot i f s).twin = s.twin ∧ (fillSlot i f s).mailboxes = s.mailboxes ∧
      (fillSlot i f s).mailboxRead = s.mailboxRead ∧ (fillSlot i f s).egress = s.egress ∧
      (fillSlot i f s).schedule = s.schedule ∧ (fillSlot i f s).host = s.host ∧ (fillSlot i f s).queues = s.queues ∧
      (fillSlot i f s).delivery = s.delivery ∧ (fillSlot i f s).fetchers = s.fetchers ∧ (fillSlot i f s).status = s.status ∧
      (fillSlot i f s).notices = s.notices ∧ (fillSlot i f s).lost = s.lost ∧ (fillSlot i f s).posted = s.posted ∧
      (fillSlot i f s).unit = s.unit ∧ (fillSlot i f s).discarded = s.discarded :=
  ⟨rfl, rfl, rfl, rfl, rfl, rfl, rfl, rfl, rfl, rfl, rfl, rfl, rfl, rfl, rfl, rfl, rfl, rfl, rfl⟩

/-! ## addReference -/

@[simp] theorem addReference_frame (i : SlotId) (s : State) :
    (addReference i s).pending = s.pending ∧ (addReference i s).time = s.time ∧ (addReference i s).links = s.links ∧
      (addReference i s).routing = s.routing ∧ (addReference i s).twin = s.twin ∧ (addReference i s).mailboxes = s.mailboxes ∧
      (addReference i s).mailboxRead = s.mailboxRead ∧ (addReference i s).egress = s.egress ∧
      (addReference i s).schedule = s.schedule ∧ (addReference i s).host = s.host ∧ (addReference i s).queues = s.queues ∧
      (addReference i s).delivery = s.delivery ∧ (addReference i s).fetchers = s.fetchers ∧
      (addReference i s).status = s.status ∧ (addReference i s).notices = s.notices ∧ (addReference i s).lost = s.lost ∧
      (addReference i s).posted = s.posted ∧ (addReference i s).unit = s.unit ∧ (addReference i s).discarded = s.discarded :=
  ⟨rfl, rfl, rfl, rfl, rfl, rfl, rfl, rfl, rfl, rfl, rfl, rfl, rfl, rfl, rfl, rfl, rfl, rfl, rfl⟩

/-! ## grantToFetcher -/

@[simp] theorem grantToFetcher_frame (l : LinkId) (i : SlotId) (s : State) :
    (grantToFetcher l i s).pending = s.pending ∧ (grantToFetcher l i s).time = s.time ∧
      (grantToFetcher l i s).links = s.links ∧ (grantToFetcher l i s).store = s.store ∧
      (grantToFetcher l i s).routing = s.routing ∧ (grantToFetcher l i s).twin = s.twin ∧
      (grantToFetcher l i s).mailboxes = s.mailboxes ∧ (grantToFetcher l i s).mailboxRead = s.mailboxRead ∧
      (grantToFetcher l i s).egress = s.egress ∧ (grantToFetcher l i s).schedule = s.schedule ∧
      (grantToFetcher l i s).host = s.host ∧ (grantToFetcher l i s).queues = s.queues ∧
      (grantToFetcher l i s).delivery = s.delivery ∧ (grantToFetcher l i s).status = s.status ∧
      (grantToFetcher l i s).notices = s.notices ∧ (grantToFetcher l i s).lost = s.lost ∧
      (grantToFetcher l i s).posted = s.posted ∧ (grantToFetcher l i s).unit = s.unit ∧
      (grantToFetcher l i s).discarded = s.discarded :=
  ⟨rfl, rfl, rfl, rfl, rfl, rfl, rfl, rfl, rfl, rfl, rfl, rfl, rfl, rfl, rfl, rfl, rfl, rfl, rfl⟩

/-! ## releaseSlot -/

@[simp] theorem releaseSlot_frame (i : SlotId) (s : State) :
    (releaseSlot i s).pending = s.pending ∧ (releaseSlot i s).time = s.time ∧ (releaseSlot i s).links = s.links ∧
      (releaseSlot i s).routing = s.routing ∧ (releaseSlot i s).twin = s.twin ∧ (releaseSlot i s).mailboxes = s.mailboxes ∧
      (releaseSlot i s).mailboxRead = s.mailboxRead ∧ (releaseSlot i s).egress = s.egress ∧
      (releaseSlot i s).schedule = s.schedule ∧ (releaseSlot i s).host = s.host ∧ (releaseSlot i s).queues = s.queues ∧
      (releaseSlot i s).delivery = s.delivery ∧ (releaseSlot i s).status = s.status ∧ (releaseSlot i s).notices = s.notices ∧
      (releaseSlot i s).lost = s.lost ∧ (releaseSlot i s).posted = s.posted ∧ (releaseSlot i s).unit = s.unit ∧
      (releaseSlot i s).discarded = s.discarded := by
  unfold releaseSlot
  repeat' split
  all_goals simp

/-- Everything a release can do (R40): the count falls by one, or the last reference makes the slot FREE, or it passes to the head of
the wait list with its count unchanged. -/
theorem releaseSlot_cases (i : SlotId) (s : State) :
    ((s.slot i).count ≠ 1 ∧ releaseSlot i s = s.modSlot i fun x => { x with count := x.count - 1 })
      ∨ ((s.slot i).count = 1 ∧ s.store.waiters = [] ∧ releaseSlot i s = s.modSlot i fun x => { x with count := 0 })
      ∨ ∃ l rest, (s.slot i).count = 1 ∧ s.store.waiters = l :: rest
          ∧ releaseSlot i s = grantToFetcher l i { s with store := { s.store with waiters := rest } } := by
  unfold releaseSlot
  by_cases h : (s.slot i).count = 1
  · right
    cases hw : s.store.waiters with
    | nil => left; simp [h]
    | cons l rest => right; exact ⟨l, rest, by simp [h], rfl, by simp [h]⟩
  · left; simp [h]
@[simp] theorem releaseSlot_reserve (i : SlotId) (s : State) : (releaseSlot i s).store.reserve = s.store.reserve := by
  rcases releaseSlot_cases i s with ⟨_, h⟩ | ⟨_, _, h⟩ | ⟨l, rest, _, _, h⟩ <;> rw [h] <;> rfl
/-- A release changes the count of no other slot (R40). -/
theorem releaseSlot_slot_ne {i j : SlotId} (h : j ≠ i) (s : State) : (releaseSlot i s).slot j = s.slot j := by
  rcases releaseSlot_cases i s with ⟨_, e⟩ | ⟨_, _, e⟩ | ⟨l, rest, _, _, e⟩ <;> rw [e]
  · simp [h]
  · simp [h]
  · rfl
/-- A release leaves the contents of every slot (R40). -/
@[simp] theorem releaseSlot_contents (i j : SlotId) (s : State) : ((releaseSlot i s).slot j).frame = (s.slot j).frame := by
  rcases releaseSlot_cases i s with ⟨_, e⟩ | ⟨_, _, e⟩ | ⟨l, rest, _, _, e⟩ <;> rw [e]
  · rw [State.modSlot_slot]; split <;> rfl
  · rw [State.modSlot_slot]; split <;> rfl
  · rfl

/-! ## releaseSlots -/

@[simp] theorem releaseSlots_frame (is : List SlotId) (s : State) :
    (releaseSlots is s).pending = s.pending ∧ (releaseSlots is s).time = s.time ∧ (releaseSlots is s).links = s.links ∧
      (releaseSlots is s).routing = s.routing ∧ (releaseSlots is s).twin = s.twin ∧
      (releaseSlots is s).mailboxes = s.mailboxes ∧ (releaseSlots is s).mailboxRead = s.mailboxRead ∧
      (releaseSlots is s).egress = s.egress ∧ (releaseSlots is s).schedule = s.schedule ∧ (releaseSlots is s).host = s.host ∧
      (releaseSlots is s).queues = s.queues ∧ (releaseSlots is s).delivery = s.delivery ∧
      (releaseSlots is s).status = s.status ∧ (releaseSlots is s).notices = s.notices ∧ (releaseSlots is s).lost = s.lost ∧
      (releaseSlots is s).posted = s.posted ∧ (releaseSlots is s).unit = s.unit ∧ (releaseSlots is s).discarded = s.discarded := by
  unfold releaseSlots
  induction is generalizing s with
  | nil => simp
  | cons i rest ih => simp [ih]

/-! ## leaveSlotWaiters -/

@[simp] theorem leaveSlotWaiters_frame (l : LinkId) (s : State) :
    (leaveSlotWaiters l s).pending = s.pending ∧ (leaveSlotWaiters l s).time = s.time ∧
      (leaveSlotWaiters l s).links = s.links ∧ (leaveSlotWaiters l s).routing = s.routing ∧
      (leaveSlotWaiters l s).twin = s.twin ∧ (leaveSlotWaiters l s).mailboxes = s.mailboxes ∧
      (leaveSlotWaiters l s).mailboxRead = s.mailboxRead ∧ (leaveSlotWaiters l s).egress = s.egress ∧
      (leaveSlotWaiters l s).schedule = s.schedule ∧ (leaveSlotWaiters l s).host = s.host ∧
      (leaveSlotWaiters l s).queues = s.queues ∧ (leaveSlotWaiters l s).delivery = s.delivery ∧
      (leaveSlotWaiters l s).fetchers = s.fetchers ∧ (leaveSlotWaiters l s).status = s.status ∧
      (leaveSlotWaiters l s).notices = s.notices ∧ (leaveSlotWaiters l s).lost = s.lost ∧
      (leaveSlotWaiters l s).posted = s.posted ∧ (leaveSlotWaiters l s).unit = s.unit ∧
      (leaveSlotWaiters l s).discarded = s.discarded :=
  ⟨rfl, rfl, rfl, rfl, rfl, rfl, rfl, rfl, rfl, rfl, rfl, rfl, rfl, rfl, rfl, rfl, rfl, rfl, rfl⟩

/-! ## passPlace -/

@[simp] theorem passPlace_frame (l : LinkId) (s : State) :
    (passPlace l s).pending = s.pending ∧ (passPlace l s).time = s.time ∧ (passPlace l s).links = s.links ∧
      (passPlace l s).store = s.store ∧ (passPlace l s).routing = s.routing ∧ (passPlace l s).twin = s.twin ∧
      (passPlace l s).mailboxes = s.mailboxes ∧ (passPlace l s).mailboxRead = s.mailboxRead ∧
      (passPlace l s).schedule = s.schedule ∧ (passPlace l s).host = s.host ∧ (passPlace l s).queues = s.queues ∧
      (passPlace l s).delivery = s.delivery ∧ (passPlace l s).status = s.status ∧ (passPlace l s).notices = s.notices ∧
      (passPlace l s).lost = s.lost ∧ (passPlace l s).posted = s.posted ∧ (passPlace l s).unit = s.unit ∧
      (passPlace l s).discarded = s.discarded := by
  unfold passPlace
  repeat' split
  all_goals simp

/-- Everything a freed place can do (R97): it passes to the waiting fetcher, whose read starts, or lowers the occupancy. -/
theorem passPlace_cases (l : LinkId) (s : State) :
    ((s.set l).waiting = false ∧ passPlace l s = s)
      ∨ ((s.set l).waiting = true
          ∧ passPlace l s = (s.modSet l fun x => { x with waiting := false, reserved := true }).modFetcher l
              fun f => { f with stage := .reading }) := by
  unfold passPlace; cases h : (s.set l).waiting <;> simp

/-! ## releasePlace -/

@[simp] theorem releasePlace_frame (l : LinkId) (s : State) :
    (releasePlace l s).pending = s.pending ∧ (releasePlace l s).time = s.time ∧ (releasePlace l s).links = s.links ∧
      (releasePlace l s).store = s.store ∧ (releasePlace l s).routing = s.routing ∧ (releasePlace l s).twin = s.twin ∧
      (releasePlace l s).mailboxes = s.mailboxes ∧ (releasePlace l s).mailboxRead = s.mailboxRead ∧
      (releasePlace l s).schedule = s.schedule ∧ (releasePlace l s).host = s.host ∧ (releasePlace l s).queues = s.queues ∧
      (releasePlace l s).delivery = s.delivery ∧ (releasePlace l s).status = s.status ∧
      (releasePlace l s).notices = s.notices ∧ (releasePlace l s).lost = s.lost ∧ (releasePlace l s).posted = s.posted ∧
      (releasePlace l s).unit = s.unit ∧ (releasePlace l s).discarded = s.discarded := by
  simp [releasePlace]

/-! ## count -/

@[simp] theorem count_frame (l : LinkId) (f : LinkCounters → LinkCounters) (s : State) :
    (count l f s).pending = s.pending ∧ (count l f s).time = s.time ∧ (count l f s).store = s.store ∧
      (count l f s).routing = s.routing ∧ (count l f s).twin = s.twin ∧ (count l f s).mailboxes = s.mailboxes ∧
      (count l f s).mailboxRead = s.mailboxRead ∧ (count l f s).egress = s.egress ∧ (count l f s).schedule = s.schedule ∧
      (count l f s).host = s.host ∧ (count l f s).queues = s.queues ∧ (count l f s).delivery = s.delivery ∧
      (count l f s).fetchers = s.fetchers ∧ (count l f s).status = s.status ∧ (count l f s).notices = s.notices ∧
      (count l f s).lost = s.lost ∧ (count l f s).posted = s.posted ∧ (count l f s).unit = s.unit ∧
      (count l f s).discarded = s.discarded :=
  ⟨rfl, rfl, rfl, rfl, rfl, rfl, rfl, rfl, rfl, rfl, rfl, rfl, rfl, rfl, rfl, rfl, rfl, rfl, rfl⟩

/-! ## countForwardDropDown -/

@[simp] theorem countForwardDropDown_frame (l : LinkId) (s : State) :
    (countForwardDropDown l s).pending = s.pending ∧ (countForwardDropDown l s).time = s.time ∧
      (countForwardDropDown l s).store = s.store ∧ (countForwardDropDown l s).routing = s.routing ∧
      (countForwardDropDown l s).twin = s.twin ∧ (countForwardDropDown l s).mailboxes = s.mailboxes ∧
      (countForwardDropDown l s).mailboxRead = s.mailboxRead ∧ (countForwardDropDown l s).egress = s.egress ∧
      (countForwardDropDown l s).schedule = s.schedule ∧ (countForwardDropDown l s).host = s.host ∧
      (countForwardDropDown l s).queues = s.queues ∧ (countForwardDropDown l s).delivery = s.delivery ∧
      (countForwardDropDown l s).fetchers = s.fetchers ∧ (countForwardDropDown l s).status = s.status ∧
      (countForwardDropDown l s).notices = s.notices ∧ (countForwardDropDown l s).lost = s.lost ∧
      (countForwardDropDown l s).posted = s.posted ∧ (countForwardDropDown l s).unit = s.unit ∧
      (countForwardDropDown l s).discarded = s.discarded :=
  ⟨rfl, rfl, rfl, rfl, rfl, rfl, rfl, rfl, rfl, rfl, rfl, rfl, rfl, rfl, rfl, rfl, rfl, rfl, rfl⟩

/-! ## countForwardDropFull -/

@[simp] theorem countForwardDropFull_frame (l : LinkId) (s : State) :
    (countForwardDropFull l s).pending = s.pending ∧ (countForwardDropFull l s).time = s.time ∧
      (countForwardDropFull l s).store = s.store ∧ (countForwardDropFull l s).routing = s.routing ∧
      (countForwardDropFull l s).twin = s.twin ∧ (countForwardDropFull l s).mailboxes = s.mailboxes ∧
      (countForwardDropFull l s).mailboxRead = s.mailboxRead ∧ (countForwardDropFull l s).egress = s.egress ∧
      (countForwardDropFull l s).schedule = s.schedule ∧ (countForwardDropFull l s).host = s.host ∧
      (countForwardDropFull l s).queues = s.queues ∧ (countForwardDropFull l s).delivery = s.delivery ∧
      (countForwardDropFull l s).fetchers = s.fetchers ∧ (countForwardDropFull l s).status = s.status ∧
      (countForwardDropFull l s).notices = s.notices ∧ (countForwardDropFull l s).lost = s.lost ∧
      (countForwardDropFull l s).posted = s.posted ∧ (countForwardDropFull l s).unit = s.unit ∧
      (countForwardDropFull l s).discarded = s.discarded :=
  ⟨rfl, rfl, rfl, rfl, rfl, rfl, rfl, rfl, rfl, rfl, rfl, rfl, rfl, rfl, rfl, rfl, rfl, rfl, rfl⟩

/-! ## countDropInputFull -/

@[simp] theorem countDropInputFull_frame (l : LinkId) (s : State) :
    (countDropInputFull l s).pending = s.pending ∧ (countDropInputFull l s).time = s.time ∧
      (countDropInputFull l s).store = s.store ∧ (countDropInputFull l s).routing = s.routing ∧
      (countDropInputFull l s).twin = s.twin ∧ (countDropInputFull l s).mailboxes = s.mailboxes ∧
      (countDropInputFull l s).mailboxRead = s.mailboxRead ∧ (countDropInputFull l s).egress = s.egress ∧
      (countDropInputFull l s).schedule = s.schedule ∧ (countDropInputFull l s).host = s.host ∧
      (countDropInputFull l s).queues = s.queues ∧ (countDropInputFull l s).delivery = s.delivery ∧
      (countDropInputFull l s).fetchers = s.fetchers ∧ (countDropInputFull l s).status = s.status ∧
      (countDropInputFull l s).notices = s.notices ∧ (countDropInputFull l s).lost = s.lost ∧
      (countDropInputFull l s).posted = s.posted ∧ (countDropInputFull l s).unit = s.unit ∧
      (countDropInputFull l s).discarded = s.discarded :=
  ⟨rfl, rfl, rfl, rfl, rfl, rfl, rfl, rfl, rfl, rfl, rfl, rfl, rfl, rfl, rfl, rfl, rfl, rfl, rfl⟩

/-! ## handCyclic -/

@[simp] theorem handCyclic_frame (e : ScheduleId) (m : CyclicMessage) (s : State) :
    (handCyclic e m s).pending = s.pending ∧ (handCyclic e m s).time = s.time ∧ (handCyclic e m s).links = s.links ∧
      (handCyclic e m s).store = s.store ∧ (handCyclic e m s).routing = s.routing ∧ (handCyclic e m s).twin = s.twin ∧
      (handCyclic e m s).mailboxes = s.mailboxes ∧ (handCyclic e m s).mailboxRead = s.mailboxRead ∧
      (handCyclic e m s).egress = s.egress ∧ (handCyclic e m s).host = s.host ∧ (handCyclic e m s).queues = s.queues ∧
      (handCyclic e m s).delivery = s.delivery ∧ (handCyclic e m s).fetchers = s.fetchers ∧
      (handCyclic e m s).status = s.status ∧ (handCyclic e m s).notices = s.notices ∧ (handCyclic e m s).lost = s.lost ∧
      (handCyclic e m s).posted = s.posted ∧ (handCyclic e m s).unit = s.unit ∧ (handCyclic e m s).discarded = s.discarded :=
  ⟨rfl, rfl, rfl, rfl, rfl, rfl, rfl, rfl, rfl, rfl, rfl, rfl, rfl, rfl, rfl, rfl, rfl, rfl, rfl⟩

/-! ## handEnd -/

@[simp] theorem handEnd_frame (l : LinkId) (e : Entry) (o : SendOutcome) (s : State) :
    (handEnd l e o s).pending = s.pending ∧ (handEnd l e o s).time = s.time ∧ (handEnd l e o s).store = s.store ∧
      (handEnd l e o s).routing = s.routing ∧ (handEnd l e o s).twin = s.twin ∧ (handEnd l e o s).mailboxes = s.mailboxes ∧
      (handEnd l e o s).mailboxRead = s.mailboxRead ∧ (handEnd l e o s).egress = s.egress ∧ (handEnd l e o s).host = s.host ∧
      (handEnd l e o s).queues = s.queues ∧ (handEnd l e o s).delivery = s.delivery ∧ (handEnd l e o s).notices = s.notices ∧
      (handEnd l e o s).lost = s.lost ∧ (handEnd l e o s).posted = s.posted ∧ (handEnd l e o s).discarded = s.discarded := by
  unfold handEnd
  repeat' split
  all_goals simp

/-! ## endEntry -/

@[simp] theorem endEntry_frame (l : LinkId) (e : Entry) (o : SendOutcome) (s : State) :
    (endEntry l e o s).pending = s.pending ∧ (endEntry l e o s).time = s.time ∧ (endEntry l e o s).routing = s.routing ∧
      (endEntry l e o s).twin = s.twin ∧ (endEntry l e o s).mailboxes = s.mailboxes ∧
      (endEntry l e o s).mailboxRead = s.mailboxRead ∧ (endEntry l e o s).host = s.host ∧
      (endEntry l e o s).queues = s.queues ∧ (endEntry l e o s).delivery = s.delivery ∧
      (endEntry l e o s).notices = s.notices ∧ (endEntry l e o s).lost = s.lost ∧ (endEntry l e o s).posted = s.posted ∧
      (endEntry l e o s).discarded = s.discarded := by
  simp [endEntry]

/-! ## endEntries -/

@[simp] theorem endEntries_frame (l : LinkId) (es : List Entry) (o : SendOutcome) (s : State) :
    (endEntries l es o s).pending = s.pending ∧ (endEntries l es o s).time = s.time ∧
      (endEntries l es o s).routing = s.routing ∧ (endEntries l es o s).twin = s.twin ∧
      (endEntries l es o s).mailboxes = s.mailboxes ∧ (endEntries l es o s).mailboxRead = s.mailboxRead ∧
      (endEntries l es o s).host = s.host ∧ (endEntries l es o s).queues = s.queues ∧
      (endEntries l es o s).delivery = s.delivery ∧ (endEntries l es o s).notices = s.notices ∧
      (endEntries l es o s).lost = s.lost ∧ (endEntries l es o s).posted = s.posted ∧
      (endEntries l es o s).discarded = s.discarded := by
  unfold endEntries
  induction es generalizing s with
  | nil => simp
  | cons e rest ih => simp [ih]

/-! ## clearPending -/

@[simp] theorem clearPending_frame (l : LinkId) (o : SendOutcome) (s : State) :
    (clearPending l o s).pending = s.pending ∧ (clearPending l o s).time = s.time ∧ (clearPending l o s).routing = s.routing ∧
      (clearPending l o s).twin = s.twin ∧ (clearPending l o s).mailboxes = s.mailboxes ∧
      (clearPending l o s).mailboxRead = s.mailboxRead ∧ (clearPending l o s).host = s.host ∧
      (clearPending l o s).queues = s.queues ∧ (clearPending l o s).delivery = s.delivery ∧
      (clearPending l o s).notices = s.notices ∧ (clearPending l o s).lost = s.lost ∧ (clearPending l o s).posted = s.posted ∧
      (clearPending l o s).discarded = s.discarded := by
  simp [clearPending]

/-! ## setScore -/

@[simp] theorem setScore_frame (l : LinkId) (n : Nat) (s : State) :
    (setScore l n s).pending = s.pending ∧ (setScore l n s).time = s.time ∧ (setScore l n s).store = s.store ∧
      (setScore l n s).routing = s.routing ∧ (setScore l n s).twin = s.twin ∧ (setScore l n s).mailboxes = s.mailboxes ∧
      (setScore l n s).mailboxRead = s.mailboxRead ∧ (setScore l n s).egress = s.egress ∧
      (setScore l n s).schedule = s.schedule ∧ (setScore l n s).host = s.host ∧ (setScore l n s).queues = s.queues ∧
      (setScore l n s).delivery = s.delivery ∧ (setScore l n s).fetchers = s.fetchers ∧ (setScore l n s).status = s.status ∧
      (setScore l n s).notices = s.notices ∧ (setScore l n s).lost = s.lost ∧ (setScore l n s).unit = s.unit ∧
      (setScore l n s).discarded = s.discarded := by
  unfold setScore
  dsimp only
  split <;> simp

/-- The link controller after its score is set (R24, R12). -/
theorem setScore_link_self (l : LinkId) (n : Nat) (s : State) :
    (setScore l n s).link l =
      { s.link l with score := n, health := healthOf n,
                      deferral := (s.link l).deferral && ((s.link l).health != .muted || healthOf n == .muted) } := by
  unfold setScore; dsimp only; split
  · rw [State.modLink_link_self]
  · rw [State.link, (postIf_frame _ _ _).2.2.1]; exact State.modLink_link_self _ _ _
@[simp] theorem setScore_link_ne {l l' : LinkId} (h : l' ≠ l) (n : Nat) (s : State) : (setScore l n s).link l' = s.link l' := by
  unfold setScore; dsimp only; split
  · rw [State.modLink_link_ne h]
  · rw [State.link, (postIf_frame _ _ _).2.2.1]; exact State.modLink_link_ne h _ _
/-- LINK_HEALTH is posted under its bit exactly when the band changes (R24, R34). -/
theorem setScore_posted (l : LinkId) (n : Nat) (s : State) :
    (setScore l n s).posted = s.posted ++
      (if healthOf n ≠ (s.link l).health ∧ (s.link l).config.reportMask.linkHealth = true then
        [{ body := .linkHealth l (s.link l).health (healthOf n) n, time := s.time }] else []) := by
  unfold setScore; dsimp only; split
  · rename_i h; simp [h]
  · rename_i h; rw [postIf_posted]; simp [h]

/-! ## setMode -/

@[simp] theorem setMode_frame (l : LinkId) (m : Mode) (s : State) :
    (setMode l m s).pending = s.pending ∧ (setMode l m s).time = s.time ∧ (setMode l m s).store = s.store ∧
      (setMode l m s).routing = s.routing ∧ (setMode l m s).twin = s.twin ∧ (setMode l m s).mailboxes = s.mailboxes ∧
      (setMode l m s).mailboxRead = s.mailboxRead ∧ (setMode l m s).egress = s.egress ∧ (setMode l m s).schedule = s.schedule ∧
      (setMode l m s).host = s.host ∧ (setMode l m s).queues = s.queues ∧ (setMode l m s).delivery = s.delivery ∧
      (setMode l m s).fetchers = s.fetchers ∧ (setMode l m s).status = s.status ∧ (setMode l m s).notices = s.notices ∧
      (setMode l m s).lost = s.lost ∧ (setMode l m s).posted = s.posted ∧ (setMode l m s).unit = s.unit ∧
      (setMode l m s).discarded = s.discarded :=
  ⟨rfl, rfl, rfl, rfl, rfl, rfl, rfl, rfl, rfl, rfl, rfl, rfl, rfl, rfl, rfl, rfl, rfl, rfl, rfl⟩

/-! ## postLinkState -/

@[simp] theorem postLinkState_frame (l : LinkId) (a b : Mode) (s : State) :
    (postLinkState l a b s).pending = s.pending ∧ (postLinkState l a b s).time = s.time ∧
      (postLinkState l a b s).links = s.links ∧ (postLinkState l a b s).store = s.store ∧
      (postLinkState l a b s).routing = s.routing ∧ (postLinkState l a b s).twin = s.twin ∧
      (postLinkState l a b s).mailboxes = s.mailboxes ∧ (postLinkState l a b s).mailboxRead = s.mailboxRead ∧
      (postLinkState l a b s).egress = s.egress ∧ (postLinkState l a b s).schedule = s.schedule ∧
      (postLinkState l a b s).host = s.host ∧ (postLinkState l a b s).queues = s.queues ∧
      (postLinkState l a b s).delivery = s.delivery ∧ (postLinkState l a b s).fetchers = s.fetchers ∧
      (postLinkState l a b s).status = s.status ∧ (postLinkState l a b s).notices = s.notices ∧
      (postLinkState l a b s).lost = s.lost ∧ (postLinkState l a b s).unit = s.unit ∧
      (postLinkState l a b s).discarded = s.discarded := by
  simp [postLinkState]

/-! ## isolate -/

@[simp] theorem isolate_frame (l : LinkId) (s : State) :
    (isolate l s).pending = s.pending ∧ (isolate l s).time = s.time ∧ (isolate l s).routing = s.routing ∧
      (isolate l s).twin = s.twin ∧ (isolate l s).mailboxes = s.mailboxes ∧ (isolate l s).mailboxRead = s.mailboxRead ∧
      (isolate l s).host = s.host ∧ (isolate l s).queues = s.queues ∧ (isolate l s).delivery = s.delivery ∧
      (isolate l s).notices = s.notices ∧ (isolate l s).lost = s.lost ∧ (isolate l s).discarded = s.discarded := by
  unfold isolate
  dsimp only
  split <;> simp

/-! ## changeScore -/

@[simp] theorem changeScore_frame (l : LinkId) (n : Nat) (s : State) :
    (changeScore l n s).pending = s.pending ∧ (changeScore l n s).time = s.time ∧ (changeScore l n s).routing = s.routing ∧
      (changeScore l n s).twin = s.twin ∧ (changeScore l n s).mailboxes = s.mailboxes ∧
      (changeScore l n s).mailboxRead = s.mailboxRead ∧ (changeScore l n s).host = s.host ∧
      (changeScore l n s).queues = s.queues ∧ (changeScore l n s).delivery = s.delivery ∧
      (changeScore l n s).notices = s.notices ∧ (changeScore l n s).lost = s.lost ∧
      (changeScore l n s).discarded = s.discarded := by
  unfold changeScore
  dsimp only
  repeat' split
  all_goals simp

/-! ## completeProbation -/

@[simp] theorem completeProbation_frame (l : LinkId) (s : State) :
    (completeProbation l s).pending = s.pending ∧ (completeProbation l s).time = s.time ∧
      (completeProbation l s).store = s.store ∧ (completeProbation l s).routing = s.routing ∧
      (completeProbation l s).twin = s.twin ∧ (completeProbation l s).mailboxes = s.mailboxes ∧
      (completeProbation l s).mailboxRead = s.mailboxRead ∧ (completeProbation l s).egress = s.egress ∧
      (completeProbation l s).schedule = s.schedule ∧ (completeProbation l s).host = s.host ∧
      (completeProbation l s).queues = s.queues ∧ (completeProbation l s).delivery = s.delivery ∧
      (completeProbation l s).fetchers = s.fetchers ∧ (completeProbation l s).status = s.status ∧
      (completeProbation l s).notices = s.notices ∧ (completeProbation l s).lost = s.lost ∧
      (completeProbation l s).unit = s.unit ∧ (completeProbation l s).discarded = s.discarded := by
  unfold completeProbation
  simp

/-! ## observeClean -/

@[simp] theorem observeClean_frame (l : LinkId) (s : State) :
    (observeClean l s).pending = s.pending ∧ (observeClean l s).time = s.time ∧ (observeClean l s).store = s.store ∧
      (observeClean l s).routing = s.routing ∧ (observeClean l s).twin = s.twin ∧ (observeClean l s).mailboxes = s.mailboxes ∧
      (observeClean l s).mailboxRead = s.mailboxRead ∧ (observeClean l s).egress = s.egress ∧
      (observeClean l s).schedule = s.schedule ∧ (observeClean l s).host = s.host ∧ (observeClean l s).queues = s.queues ∧
      (observeClean l s).delivery = s.delivery ∧ (observeClean l s).fetchers = s.fetchers ∧
      (observeClean l s).status = s.status ∧ (observeClean l s).notices = s.notices ∧ (observeClean l s).lost = s.lost ∧
      (observeClean l s).unit = s.unit ∧ (observeClean l s).discarded = s.discarded := by
  unfold observeClean
  repeat' split
  all_goals simp

/-! ## discardAccess -/

@[simp] theorem discardAccess_frame (a : HostAccess) (i : Option SlotId) (s : State) :
    (discardAccess a i s).pending = s.pending ∧ (discardAccess a i s).time = s.time ∧ (discardAccess a i s).links = s.links ∧
      (discardAccess a i s).store = s.store ∧ (discardAccess a i s).routing = s.routing ∧ (discardAccess a i s).twin = s.twin ∧
      (discardAccess a i s).mailboxes = s.mailboxes ∧ (discardAccess a i s).mailboxRead = s.mailboxRead ∧
      (discardAccess a i s).egress = s.egress ∧ (discardAccess a i s).schedule = s.schedule ∧
      (discardAccess a i s).host = s.host ∧ (discardAccess a i s).queues = s.queues ∧
      (discardAccess a i s).delivery = s.delivery ∧ (discardAccess a i s).fetchers = s.fetchers ∧
      (discardAccess a i s).status = s.status ∧ (discardAccess a i s).notices = s.notices ∧
      (discardAccess a i s).lost = s.lost ∧ (discardAccess a i s).posted = s.posted ∧ (discardAccess a i s).unit = s.unit :=
  ⟨rfl, rfl, rfl, rfl, rfl, rfl, rfl, rfl, rfl, rfl, rfl, rfl, rfl, rfl, rfl, rfl, rfl, rfl, rfl⟩

/-! ## releaseFetchSlot -/

@[simp] theorem releaseFetchSlot_frame (l : LinkId) (s : State) :
    (releaseFetchSlot l s).pending = s.pending ∧ (releaseFetchSlot l s).time = s.time ∧
      (releaseFetchSlot l s).links = s.links ∧ (releaseFetchSlot l s).routing = s.routing ∧
      (releaseFetchSlot l s).twin = s.twin ∧ (releaseFetchSlot l s).mailboxes = s.mailboxes ∧
      (releaseFetchSlot l s).mailboxRead = s.mailboxRead ∧ (releaseFetchSlot l s).egress = s.egress ∧
      (releaseFetchSlot l s).schedule = s.schedule ∧ (releaseFetchSlot l s).host = s.host ∧
      (releaseFetchSlot l s).queues = s.queues ∧ (releaseFetchSlot l s).delivery = s.delivery ∧
      (releaseFetchSlot l s).status = s.status ∧ (releaseFetchSlot l s).notices = s.notices ∧
      (releaseFetchSlot l s).lost = s.lost ∧ (releaseFetchSlot l s).posted = s.posted ∧ (releaseFetchSlot l s).unit = s.unit ∧
      (releaseFetchSlot l s).discarded = s.discarded := by
  unfold releaseFetchSlot
  repeat' split
  all_goals simp

/-! ## withdrawFetch -/

@[simp] theorem withdrawFetch_frame (l : LinkId) (s : State) :
    (withdrawFetch l s).pending = s.pending ∧ (withdrawFetch l s).time = s.time ∧ (withdrawFetch l s).links = s.links ∧
      (withdrawFetch l s).routing = s.routing ∧ (withdrawFetch l s).twin = s.twin ∧
      (withdrawFetch l s).mailboxes = s.mailboxes ∧ (withdrawFetch l s).mailboxRead = s.mailboxRead ∧
      (withdrawFetch l s).schedule = s.schedule ∧ (withdrawFetch l s).host = s.host ∧ (withdrawFetch l s).queues = s.queues ∧
      (withdrawFetch l s).delivery = s.delivery ∧ (withdrawFetch l s).notices = s.notices ∧ (withdrawFetch l s).lost = s.lost ∧
      (withdrawFetch l s).posted = s.posted := by
  unfold withdrawFetch
  repeat' split
  all_goals simp

/-! ## dropSqWord -/

@[simp] theorem dropSqWord_frame (l : LinkId) (s : State) :
    (dropSqWord l s).pending = s.pending ∧ (dropSqWord l s).time = s.time ∧ (dropSqWord l s).links = s.links ∧
      (dropSqWord l s).store = s.store ∧ (dropSqWord l s).routing = s.routing ∧ (dropSqWord l s).twin = s.twin ∧
      (dropSqWord l s).mailboxes = s.mailboxes ∧ (dropSqWord l s).mailboxRead = s.mailboxRead ∧
      (dropSqWord l s).egress = s.egress ∧ (dropSqWord l s).schedule = s.schedule ∧ (dropSqWord l s).host = s.host ∧
      (dropSqWord l s).queues = s.queues ∧ (dropSqWord l s).delivery = s.delivery ∧ (dropSqWord l s).status = s.status ∧
      (dropSqWord l s).notices = s.notices ∧ (dropSqWord l s).lost = s.lost ∧ (dropSqWord l s).posted = s.posted ∧
      (dropSqWord l s).unit = s.unit := by
  unfold dropSqWord
  repeat' split
  all_goals simp

/-! ## dropAdmission -/

@[simp] theorem dropAdmission_frame (l : LinkId) (s : State) :
    (dropAdmission l s).pending = s.pending ∧ (dropAdmission l s).time = s.time ∧ (dropAdmission l s).links = s.links ∧
      (dropAdmission l s).routing = s.routing ∧ (dropAdmission l s).twin = s.twin ∧
      (dropAdmission l s).mailboxes = s.mailboxes ∧ (dropAdmission l s).mailboxRead = s.mailboxRead ∧
      (dropAdmission l s).schedule = s.schedule ∧ (dropAdmission l s).host = s.host ∧ (dropAdmission l s).queues = s.queues ∧
      (dropAdmission l s).delivery = s.delivery ∧ (dropAdmission l s).status = s.status ∧
      (dropAdmission l s).notices = s.notices ∧ (dropAdmission l s).lost = s.lost ∧ (dropAdmission l s).posted = s.posted ∧
      (dropAdmission l s).unit = s.unit ∧ (dropAdmission l s).discarded = s.discarded := by
  unfold dropAdmission
  repeat' split
  all_goals simp

/-! ## withdrawCommandFetch -/

@[simp] theorem withdrawCommandFetch_frame  (s : State) :
    (withdrawCommandFetch s).pending = s.pending ∧ (withdrawCommandFetch s).time = s.time ∧
      (withdrawCommandFetch s).links = s.links ∧ (withdrawCommandFetch s).store = s.store ∧
      (withdrawCommandFetch s).routing = s.routing ∧ (withdrawCommandFetch s).twin = s.twin ∧
      (withdrawCommandFetch s).mailboxes = s.mailboxes ∧ (withdrawCommandFetch s).mailboxRead = s.mailboxRead ∧
      (withdrawCommandFetch s).egress = s.egress ∧ (withdrawCommandFetch s).schedule = s.schedule ∧
      (withdrawCommandFetch s).host = s.host ∧ (withdrawCommandFetch s).queues = s.queues ∧
      (withdrawCommandFetch s).delivery = s.delivery ∧ (withdrawCommandFetch s).notices = s.notices ∧
      (withdrawCommandFetch s).lost = s.lost ∧ (withdrawCommandFetch s).posted = s.posted := by
  unfold withdrawCommandFetch
  split <;> simp

/-! ## dropBacklog -/

@[simp] theorem dropBacklog_frame (d : DeliveryId) (s : State) :
    (dropBacklog d s).pending = s.pending ∧ (dropBacklog d s).time = s.time ∧ (dropBacklog d s).links = s.links ∧
      (dropBacklog d s).routing = s.routing ∧ (dropBacklog d s).twin = s.twin ∧ (dropBacklog d s).mailboxes = s.mailboxes ∧
      (dropBacklog d s).mailboxRead = s.mailboxRead ∧ (dropBacklog d s).egress = s.egress ∧
      (dropBacklog d s).schedule = s.schedule ∧ (dropBacklog d s).host = s.host ∧ (dropBacklog d s).queues = s.queues ∧
      (dropBacklog d s).status = s.status ∧ (dropBacklog d s).notices = s.notices ∧ (dropBacklog d s).lost = s.lost ∧
      (dropBacklog d s).posted = s.posted ∧ (dropBacklog d s).unit = s.unit := by
  unfold dropBacklog
  dsimp only
  split <;> simp

/-! ## countDrop -/

@[simp] theorem countDrop_frame (d : DeliveryId) (s : State) :
    (countDrop d s).pending = s.pending ∧ (countDrop d s).time = s.time ∧ (countDrop d s).links = s.links ∧
      (countDrop d s).store = s.store ∧ (countDrop d s).routing = s.routing ∧ (countDrop d s).twin = s.twin ∧
      (countDrop d s).mailboxes = s.mailboxes ∧ (countDrop d s).mailboxRead = s.mailboxRead ∧
      (countDrop d s).egress = s.egress ∧ (countDrop d s).schedule = s.schedule ∧ (countDrop d s).host = s.host ∧
      (countDrop d s).queues = s.queues ∧ (countDrop d s).fetchers = s.fetchers ∧ (countDrop d s).status = s.status ∧
      (countDrop d s).notices = s.notices ∧ (countDrop d s).lost = s.lost ∧ (countDrop d s).unit = s.unit ∧
      (countDrop d s).discarded = s.discarded := by
  unfold countDrop
  dsimp only
  split <;> simp

/-! ## dropIndexRead -/

@[simp] theorem dropIndexRead_frame (q : QueueId) (s : State) :
    (dropIndexRead q s).pending = s.pending ∧ (dropIndexRead q s).time = s.time ∧ (dropIndexRead q s).links = s.links ∧
      (dropIndexRead q s).store = s.store ∧ (dropIndexRead q s).routing = s.routing ∧ (dropIndexRead q s).twin = s.twin ∧
      (dropIndexRead q s).mailboxes = s.mailboxes ∧ (dropIndexRead q s).mailboxRead = s.mailboxRead ∧
      (dropIndexRead q s).egress = s.egress ∧ (dropIndexRead q s).schedule = s.schedule ∧ (dropIndexRead q s).host = s.host ∧
      (dropIndexRead q s).delivery = s.delivery ∧ (dropIndexRead q s).fetchers = s.fetchers ∧
      (dropIndexRead q s).status = s.status ∧ (dropIndexRead q s).notices = s.notices ∧ (dropIndexRead q s).lost = s.lost ∧
      (dropIndexRead q s).posted = s.posted ∧ (dropIndexRead q s).unit = s.unit := by
  unfold dropIndexRead
  repeat' split
  all_goals simp

/-! ## raiseQueueCause -/

@[simp] theorem raiseQueueCause_frame (q : QueueId) (s : State) :
    (raiseQueueCause q s).pending = s.pending ∧ (raiseQueueCause q s).time = s.time ∧ (raiseQueueCause q s).links = s.links ∧
      (raiseQueueCause q s).store = s.store ∧ (raiseQueueCause q s).routing = s.routing ∧ (raiseQueueCause q s).twin = s.twin ∧
      (raiseQueueCause q s).mailboxes = s.mailboxes ∧ (raiseQueueCause q s).mailboxRead = s.mailboxRead ∧
      (raiseQueueCause q s).egress = s.egress ∧ (raiseQueueCause q s).schedule = s.schedule ∧
      (raiseQueueCause q s).queues = s.queues ∧ (raiseQueueCause q s).delivery = s.delivery ∧
      (raiseQueueCause q s).fetchers = s.fetchers ∧ (raiseQueueCause q s).status = s.status ∧
      (raiseQueueCause q s).notices = s.notices ∧ (raiseQueueCause q s).lost = s.lost ∧
      (raiseQueueCause q s).posted = s.posted ∧ (raiseQueueCause q s).unit = s.unit ∧
      (raiseQueueCause q s).discarded = s.discarded :=
  ⟨rfl, rfl, rfl, rfl, rfl, rfl, rfl, rfl, rfl, rfl, rfl, rfl, rfl, rfl, rfl, rfl, rfl, rfl, rfl⟩

/-! ## countRecord -/

@[simp] theorem countRecord_frame (q : QueueId) (s : State) :
    (countRecord q s).pending = s.pending ∧ (countRecord q s).time = s.time ∧ (countRecord q s).links = s.links ∧
      (countRecord q s).store = s.store ∧ (countRecord q s).routing = s.routing ∧ (countRecord q s).twin = s.twin ∧
      (countRecord q s).mailboxes = s.mailboxes ∧ (countRecord q s).mailboxRead = s.mailboxRead ∧
      (countRecord q s).egress = s.egress ∧ (countRecord q s).schedule = s.schedule ∧ (countRecord q s).delivery = s.delivery ∧
      (countRecord q s).fetchers = s.fetchers ∧ (countRecord q s).status = s.status ∧ (countRecord q s).notices = s.notices ∧
      (countRecord q s).lost = s.lost ∧ (countRecord q s).posted = s.posted ∧ (countRecord q s).unit = s.unit ∧
      (countRecord q s).discarded = s.discarded := by
  unfold countRecord
  dsimp only
  repeat' split
  all_goals simp

/-! ## dropQueueWork -/

@[simp] theorem dropQueueWork_frame (q : QueueId) (s : State) :
    (dropQueueWork q s).pending = s.pending ∧ (dropQueueWork q s).time = s.time ∧ (dropQueueWork q s).links = s.links ∧
      (dropQueueWork q s).routing = s.routing ∧ (dropQueueWork q s).twin = s.twin ∧
      (dropQueueWork q s).mailboxes = s.mailboxes ∧ (dropQueueWork q s).mailboxRead = s.mailboxRead ∧
      (dropQueueWork q s).schedule = s.schedule ∧ (dropQueueWork q s).host = s.host ∧ (dropQueueWork q s).queues = s.queues ∧
      (dropQueueWork q s).notices = s.notices ∧ (dropQueueWork q s).lost = s.lost ∧ (dropQueueWork q s).posted = s.posted := by
  unfold dropQueueWork
  repeat' split
  all_goals simp

/-! ## faultQueue -/

@[simp] theorem faultQueue_frame (q : QueueId) (c : FaultCause) (s : State) :
    (faultQueue q c s).pending = s.pending ∧ (faultQueue q c s).time = s.time ∧ (faultQueue q c s).links = s.links ∧
      (faultQueue q c s).routing = s.routing ∧ (faultQueue q c s).twin = s.twin ∧ (faultQueue q c s).mailboxes = s.mailboxes ∧
      (faultQueue q c s).mailboxRead = s.mailboxRead ∧ (faultQueue q c s).schedule = s.schedule ∧
      (faultQueue q c s).host = s.host ∧ (faultQueue q c s).notices = s.notices ∧ (faultQueue q c s).lost = s.lost := by
  unfold faultQueue
  dsimp only
  split <;> simp

/-! ## loadQueue -/

@[simp] theorem loadQueue_frame (q : QueueId) (d : Descriptor) (s : State) :
    (loadQueue q d s).pending = s.pending ∧ (loadQueue q d s).time = s.time ∧ (loadQueue q d s).links = s.links ∧
      (loadQueue q d s).store = s.store ∧ (loadQueue q d s).routing = s.routing ∧ (loadQueue q d s).twin = s.twin ∧
      (loadQueue q d s).mailboxes = s.mailboxes ∧ (loadQueue q d s).mailboxRead = s.mailboxRead ∧
      (loadQueue q d s).egress = s.egress ∧ (loadQueue q d s).schedule = s.schedule ∧ (loadQueue q d s).host = s.host ∧
      (loadQueue q d s).delivery = s.delivery ∧ (loadQueue q d s).fetchers = s.fetchers ∧ (loadQueue q d s).status = s.status ∧
      (loadQueue q d s).notices = s.notices ∧ (loadQueue q d s).lost = s.lost ∧ (loadQueue q d s).posted = s.posted ∧
      (loadQueue q d s).unit = s.unit ∧ (loadQueue q d s).discarded = s.discarded :=
  ⟨rfl, rfl, rfl, rfl, rfl, rfl, rfl, rfl, rfl, rfl, rfl, rfl, rfl, rfl, rfl, rfl, rfl, rfl, rfl⟩

/-! ## settleDetach -/

@[simp] theorem settleDetach_frame  (s : State) :
    (settleDetach s).pending = s.pending ∧ (settleDetach s).time = s.time ∧ (settleDetach s).links = s.links ∧
      (settleDetach s).store = s.store ∧ (settleDetach s).routing = s.routing ∧ (settleDetach s).twin = s.twin ∧
      (settleDetach s).mailboxes = s.mailboxes ∧ (settleDetach s).mailboxRead = s.mailboxRead ∧
      (settleDetach s).egress = s.egress ∧ (settleDetach s).schedule = s.schedule ∧ (settleDetach s).queues = s.queues ∧
      (settleDetach s).delivery = s.delivery ∧ (settleDetach s).fetchers = s.fetchers ∧ (settleDetach s).status = s.status ∧
      (settleDetach s).notices = s.notices ∧ (settleDetach s).lost = s.lost ∧ (settleDetach s).posted = s.posted ∧
      (settleDetach s).unit = s.unit ∧ (settleDetach s).discarded = s.discarded := by
  unfold settleDetach
  split <;> simp

/-- The host side after a settling: DETACHED exactly when DETACHING has nothing left to wait for (R142). -/
theorem settleDetach_host (s : State) :
    (settleDetach s).host =
      if s.host.state = .detaching ∧ s.discarded = [] ∧ s.unit.execution = none then { s.host with state := .detached }
      else s.host := by
  unfold settleDetach; split <;> rfl

/-! ## completeAs -/

@[simp] theorem completeAs_frame (n : Nat) (t : BitVec 32) (r : ResultCode) (a b : BitVec 64) (s : State) :
    (completeAs n t r a b s).pending = s.pending ∧ (completeAs n t r a b s).time = s.time ∧
      (completeAs n t r a b s).links = s.links ∧ (completeAs n t r a b s).store = s.store ∧
      (completeAs n t r a b s).routing = s.routing ∧ (completeAs n t r a b s).twin = s.twin ∧
      (completeAs n t r a b s).mailboxes = s.mailboxes ∧ (completeAs n t r a b s).mailboxRead = s.mailboxRead ∧
      (completeAs n t r a b s).egress = s.egress ∧ (completeAs n t r a b s).schedule = s.schedule ∧
      (completeAs n t r a b s).queues = s.queues ∧ (completeAs n t r a b s).delivery = s.delivery ∧
      (completeAs n t r a b s).fetchers = s.fetchers ∧ (completeAs n t r a b s).notices = s.notices ∧
      (completeAs n t r a b s).lost = s.lost ∧ (completeAs n t r a b s).posted = s.posted ∧
      (completeAs n t r a b s).discarded = s.discarded := by
  simp [completeAs]

@[simp] theorem completeAs_unit (n : Nat) (t : BitVec 32) (r : ResultCode) (a b : BitVec 64) (s : State) :
    (completeAs n t r a b s).unit = s.unit.resultHanded := by simp [completeAs]
@[simp] theorem completeAs_status (n : Nat) (t : BitVec 32) (r : ResultCode) (a b : BitVec 64) (s : State) :
    (completeAs n t r a b s).status =
      { s.status with completions := s.status.completions ++ (if s.attached then [.commandDone r n t a b s.time] else []) } := by
  simp [completeAs, handCompletion_status]
@[simp] theorem completeAs_host (n : Nat) (t : BitVec 32) (r : ResultCode) (a b : BitVec 64) (s : State) :
    (completeAs n t r a b s).host =
      if s.host.state = .detaching ∧ s.discarded = [] then { s.host with state := .detached } else s.host := by
  simp [completeAs, settleDetach_host, CommandUnit.resultHanded]

/-! ## complete -/

@[simp] theorem complete_frame (r : ResultCode) (a b : BitVec 64) (s : State) :
    (complete r a b s).pending = s.pending ∧ (complete r a b s).time = s.time ∧ (complete r a b s).links = s.links ∧
      (complete r a b s).store = s.store ∧ (complete r a b s).routing = s.routing ∧ (complete r a b s).twin = s.twin ∧
      (complete r a b s).mailboxes = s.mailboxes ∧ (complete r a b s).mailboxRead = s.mailboxRead ∧
      (complete r a b s).egress = s.egress ∧ (complete r a b s).schedule = s.schedule ∧ (complete r a b s).queues = s.queues ∧
      (complete r a b s).delivery = s.delivery ∧ (complete r a b s).fetchers = s.fetchers ∧
      (complete r a b s).notices = s.notices ∧ (complete r a b s).lost = s.lost ∧ (complete r a b s).posted = s.posted ∧
      (complete r a b s).discarded = s.discarded := by
  unfold complete
  split <;> simp

/-! ## completePlain -/

@[simp] theorem completePlain_frame (r : ResultCode) (s : State) :
    (completePlain r s).pending = s.pending ∧ (completePlain r s).time = s.time ∧ (completePlain r s).links = s.links ∧
      (completePlain r s).store = s.store ∧ (completePlain r s).routing = s.routing ∧ (completePlain r s).twin = s.twin ∧
      (completePlain r s).mailboxes = s.mailboxes ∧ (completePlain r s).mailboxRead = s.mailboxRead ∧
      (completePlain r s).egress = s.egress ∧ (completePlain r s).schedule = s.schedule ∧
      (completePlain r s).queues = s.queues ∧ (completePlain r s).delivery = s.delivery ∧
      (completePlain r s).fetchers = s.fetchers ∧ (completePlain r s).notices = s.notices ∧ (completePlain r s).lost = s.lost ∧
      (completePlain r s).posted = s.posted ∧ (completePlain r s).discarded = s.discarded := by
  simp [completePlain]

/-! ## startAccess -/

@[simp] theorem startAccess_frame (a : CommandAccess) (s : State) :
    (startAccess a s).pending = s.pending ∧ (startAccess a s).time = s.time ∧ (startAccess a s).links = s.links ∧
      (startAccess a s).store = s.store ∧ (startAccess a s).routing = s.routing ∧ (startAccess a s).twin = s.twin ∧
      (startAccess a s).mailboxes = s.mailboxes ∧ (startAccess a s).mailboxRead = s.mailboxRead ∧
      (startAccess a s).egress = s.egress ∧ (startAccess a s).schedule = s.schedule ∧ (startAccess a s).host = s.host ∧
      (startAccess a s).queues = s.queues ∧ (startAccess a s).delivery = s.delivery ∧ (startAccess a s).fetchers = s.fetchers ∧
      (startAccess a s).status = s.status ∧ (startAccess a s).notices = s.notices ∧ (startAccess a s).lost = s.lost ∧
      (startAccess a s).posted = s.posted ∧ (startAccess a s).discarded = s.discarded :=
  ⟨rfl, rfl, rfl, rfl, rfl, rfl, rfl, rfl, rfl, rfl, rfl, rfl, rfl, rfl, rfl, rfl, rfl, rfl, rfl⟩

/-- A command is taken by its owner exactly when it is the one in execution and its own access has not begun (R132). -/
theorem takeCommand_taken {c : Command} {tag : BitVec 32} {s : State} (effect : State → State)
    (h : s.unit.execution = some { tag := tag, command := c, access := none }) : takeCommand c effect s = .next (effect s) := by
  simp [takeCommand, h]
/-- Whatever is in execution, a taking answers a next state: the effect's, or the state as it is (R132). -/
theorem takeCommand_cases (c : Command) (effect : State → State) (s : State) :
    takeCommand c effect s = .next (effect s) ∨ takeCommand c effect s = .next s := by
  unfold takeCommand; repeat' split
  all_goals simp

/-! ## The register window's offsets, host words and abort marks -/

/-- Every register stands at its own offset (R159). -/
@[simp] theorem registerAt_registerOffset (r : Register) : registerAt (registerOffset r) = some r := by cases r <;> rfl

/-- A register stands at an offset exactly when it is the register's own (R159). -/
theorem registerAt_eq_some_iff (offset : Nat) (r : Register) : registerAt offset = some r ↔ registerOffset r = offset := by
  constructor
  · intro h
    simpa using List.find?_some h
  · rintro rfl; simp

/-- A host word by its four bytes (R166). -/
theorem hostWord_bytes (b0 b1 b2 b3 : Byte) :
    hostWord [b0, b1, b2, b3] = b0.toNat + 2 ^ 8 * b1.toNat + 2 ^ 16 * b2.toNat + 2 ^ 24 * b3.toNat := by
  simp only [hostWord, field, leNat, List.drop_zero, List.take_succ_cons, List.take_zero]
  omega

/-- An abort mark is 12 dominant bit-times (R7). -/
@[simp] theorem abortMark_eq : abortMark = List.replicate 12 false := rfl

/-- The bus state at a start mark (R5, R10). -/
@[simp] theorem Link.startMark_idleIn (k : Link) : k.startMark.idleIn = 0 := rfl
@[simp] theorem Link.startMark_mode (k : Link) : k.startMark.mode = k.mode := rfl
@[simp] theorem Link.startMark_reception (k : Link) : k.startMark.reception = k.reception := rfl

/-- A run goes on or starts again with each sample (R6, R15). -/
@[simp] theorem trailingRun_nil (v : Bool) (n : Nat) : trailingRun v n [] = n := rfl

theorem trailingRun_append (v : Bool) (n : Nat) (first rest : Line) :
    trailingRun v n (first ++ rest) = trailingRun v (trailingRun v n first) rest := by
  simp only [trailingRun, List.foldl_append]

/-- The link when a reception begins by loss of contention and when it ends. -/
@[simp] theorem Link.openReception_reception (k : Link) (line : Line) : (k.openReception line).reception = some line := rfl
@[simp] theorem Link.openReception_mode (k : Link) (line : Line) : (k.openReception line).mode = k.mode := rfl
@[simp] theorem Link.receptionOver_reception (k : Link) (line : Line) (outcome : ReceptionOutcome) :
    (k.receptionOver line outcome).reception = none := rfl
@[simp] theorem Link.receptionOver_mode (k : Link) (line : Line) (outcome : ReceptionOutcome) :
    (k.receptionOver line outcome).mode = k.mode := rfl
@[simp] theorem Link.receptionOver_dominantRun (k : Link) (line : Line) (outcome : ReceptionOutcome) :
    (k.receptionOver line outcome).dominantRun = trailingRun false k.dominantRun line := rfl

/-- What resuming a receiver leaves as it is, and that no end is left taken (log 44). -/
@[simp] theorem Rx.resume_bits (rx : Rx) : rx.resume.bits = rx.bits := rfl
@[simp] theorem Rx.resume_last (rx : Rx) : rx.resume.last = rx.last := rfl
@[simp] theorem Rx.resume_run (rx : Rx) : rx.resume.run = rx.run := rfl
@[simp] theorem Rx.resume_violation (rx : Rx) : rx.resume.violation = rx.violation := rfl

theorem Rx.resume_not_ended (rx : Rx) (kind : ReceptionError) : rx.resume.phase ≠ .tail (.ended kind) := by
  obtain ⟨_, _, _, _, phase⟩ := rx
  cases phase with
  | tail t => cases t <;> simp [Rx.resume]
  | _ => simp [Rx.resume]

theorem Rx.resume_of_not_ended (rx : Rx) (h : ∀ kind, rx.phase ≠ .tail (.ended kind)) : rx.resume = rx := by
  obtain ⟨_, _, _, _, phase⟩ := rx
  cases phase with
  | tail t =>
    cases t with
    | ended kind => exact absurd rfl (h kind)
    | _ => rfl
  | _ => rfl

/-- The samples that open a reception are read one by one. -/
@[simp] theorem Rx.opened_nil : Rx.opened [] = Rx.start := rfl

theorem Rx.opened_concat (opening : Line) (b : Bool) :
    Rx.opened (opening ++ [b]) = ((Rx.opened opening).next b).resume := by
  simp only [Rx.opened, List.foldl_append, List.foldl_cons, List.foldl_nil]

/-- No sender loses contention before its start mark is read. -/
@[simp] theorem losesContention_nil (key : Key) (seq : Seq) (payload : List Byte) : losesContention key seq payload [] = false := rfl

end Sys2Proof.Machine
end

