-- ==== Sys2Proof/Tests/Slice0.lean ====
section
/-! SUPPORT. Tests: an ill-formed term for each check of WellFormed; small tests of one happening each, with expected values from the
manual's worked examples and tables; and for every obligation with hypotheses a named state and operands that meet them, a boundary of each
clause among them (`witness_<obligation>`). -/

namespace Sys2Proof.Tests

-- One thread: with a thread for each theorem the kernel's stacks pass the memory limit of the check.
set_option Elab.async false

open Sys2Proof.Machine

/-! ## Helpers -/

/-- A happening answers a next state with this property. -/
def answers (r : Result) (p : State → Bool) : Bool :=
  match r with
  | .next t => p t
  | .fault _ => false
  | .refused _ => false

/-- What `answers` says. -/
theorem answers_iff (r : Result) (p : State → Bool) : answers r p = true ↔ ∃ t, r = .next t ∧ p t = true := by
  cases r <;> simp [answers]

/-- An ONLINE link at 400 kbit/s that follows an idle bus. -/
def online : Link := { Link.reset with mode := .online, following := true, config := { LinkConfig.reset with bitTime := 100 } }

/-- A queue that is ACTIVE with a ring of 16 entries. -/
def active : Queue := { Queue.reset with state := .active }

/-- An attached device: every link ONLINE, every queue ACTIVE, nothing under way; CQ and the send queues have one record to read. -/
def live : State :=
  { State.reset with
    links := Vector.replicate 4 online
    queues := (Vector.replicate 14 active).set 0 { active with known := 1 } |>.set 1 { active with known := 1 }
    host := { State.reset.host with state := .attached, enables := 15#4 }
    status := { StatusWriter.reset with lap := true } }

/-- `live` with one slot HELD by so many holders, with this frame. -/
def hold (i : SlotId) (n : Nat) (f : Frame) (s : State) : State := s.modSlot i fun _ => { count := n, frame := f }

/-- A frame received on L0. -/
def frame : Frame :=
  { key := 0x0523#16, seq := 6#4, payload := [0x10#8, 0x20#8, 0x30#8, 0x40#8], ingress := 0, origin := .received, arrival := 500#32 }

/-- The state with this command in execution under tag 7, and with its own access if it has one. -/
def executing (c : Command) (a : Option CommandAccess) (s : State) : State :=
  { s with unit := { s.unit with stage := .executing, execution := some { tag := 7#32, command := c, access := a } } }

/-- The state with the host side changed. -/
def inHost (h : HostState) (s : State) : State := { s with host := { s.host with state := h } }

/-- A FORWARD entry of this slot, key and admission number. -/
def forwardEntry (i : SlotId) (key : Key) (admission : BitVec 48) : Entry :=
  { slot := i, key := key, seq := 6#4, origin := .forward 0, budget := 3, deadline := none, attempts := 0, cancelRequested := false,
    admission := admission }

/-- A HOST entry of this slot, key and admission number, with tag 51h. -/
def hostEntry (i : SlotId) (key : Key) (admission : BitVec 48) : Entry :=
  { forwardEntry i key admission with origin := .host 0x51#32 false false false, budget := 1 }

/-- The host side at work: L0's fetcher reads a record, L1's writes its device word, DQ0 writes a record, DQ1 its device word, the command unit
reads a record while its device word is written, the status writer writes a notice, and four index reads are outstanding. -/
def busy : State :=
  let s := hold 12 1 frame (hold 11 1 frame (hold 10 1 frame live))
  let s := s.modFetcher 0 fun f => { f with stage := .reading, slot := some 10 }
  let s := s.modSet 0 fun x => { x with reserved := true }
  let s := s.modFetcher 1 fun f => { f with stage := .index }
  let s := s.modWriter 0 fun w => { w with stage := .record, backlog := [{ slot := 11, tag := 0x11#16, firstRule := some 0 }] }
  let s := s.modWriter 1 fun w => { w with stage := .index, backlog := [{ slot := 12, tag := 0x22#16, firstRule := none }] }
  let s := s.modQueue cq fun x => { x with reading := true }
  let s := s.modQueue (sq 0) fun x => { x with reading := true, reread := true }
  let s := s.modQueue (dq 0) fun x => { x with reading := true, known := 3, device := 5 }
  let s := s.modQueue stq fun x => { x with reading := true, known := 2, device := 4 }
  { s with
    unit := { s.unit with stage := .reading, wordWrite := true }
    status := { s.status with
      reserved := 2, stage := .record, current := some (.notice { body := .linkStuck 0, time := 9#32 }) } }

/-- `busy` with the status writer at its device word. -/
def busyIndex : State := { busy with status := { busy.status with stage := .index, current := none } }

/-- The bookkeeping of `busy`. -/
theorem busy_consistent : Consistent busy := consistent_of_check (by decide +kernel)

/-- The references of `busy`. -/
theorem busy_references : ReferencesCounted busy := referencesCounted_of_lists (hs := [10, 11, 12]) (by decide +kernel) (by decide +kernel)

/-! ## WellFormed: an ill-formed term for each check -/

/-- A rule within its ranges. -/
def rule : Rule :=
  { ingress := 0b0011#4, origin := .both, keyValue := 0x0500#16, keyMask := 0xFF00#16, lengthMin := 0, lengthMax := 64, links := 0b0100#4,
    rewriteKey := some 0x0150#16, delivery := 1#8, tag := 0x0011#16, mailbox := some 7, continueWalk := true, twin := none }

/-- The arguments of a CYCLIC_SET within their ranges (the example of section 10.10, row 2). -/
def cyclicArgs : CyclicArgs :=
  { link := 1, key := 0x0240#16, period := 20, phase := 5, policy := .replace, budget := 1, length := 4, address := 0x1000#64 }

theorem test_wellFormed_linkConfig : [{ LinkConfig.reset with bitTime := 39 }, { LinkConfig.reset with bitTime := 4001 },
    { LinkConfig.reset with forwardRetries := 16 }, { LinkConfig.reset with forwardLifetime := 16777216 }].all
      (fun cfg => !(Instr.linkConfig 0 cfg).wellFormed) = true := by decide

theorem test_wellFormed_ruleWrite : [{ rule with lengthMax := 65 }, { rule with lengthMin := 9, lengthMax := 8 }].all
    (fun r => !(Instr.ruleWrite 0 r).wellFormed) = true := by decide

theorem test_wellFormed_cyclicSet : [{ cyclicArgs with period := 0, phase := 0 }, { cyclicArgs with period := 65536 },
    { cyclicArgs with phase := 20 }, { cyclicArgs with budget := 16 }, { cyclicArgs with length := 65 }].all
      (fun a => !(Instr.cyclicSet 0 a).wellFormed) = true := by decide

theorem test_wellFormed_commands : [Instr.queueEnable 0, .queueEnable 13, .queueDisable 0, .queueDisable 13, .storeReserve 129, .ruleCount 257,
    .twinGroup 0 0b0100#4 10, .twinGroup 0 0b0011#4 9, .twinGroup 0 0b0011#4 1000001, .cyclicUpdate 0 65 0#64].all
      (fun i => !i.wellFormed) = true := by decide

theorem test_wellFormed_operands : [Instr.controlEnablesWrite 0#4 1#3, .controlEnablesWrite 0#4 2#3, .controlEnablesWrite 0#4 4#3,
    .attachReadEnd (.data [] (List.replicate 16 0#8) (List.replicate 16 0#8)), .attachReadEnd (.data (List.replicate 64 0#8) [] []),
    .contentionLost 0 [false], .indexReadEnd 0 (List.replicate 3 0#8), .commandTaken (List.replicate 63 0#8), .sendRecordTaken 0 (List.replicate 95 0#8), .holdoffExpiry 4,
    .queueEnableDescriptorReadEnd (.data (List.replicate 15 0#8)), .cyclicSetReadEnd (List.replicate 65 0#8),
    .cyclicUpdateApply (List.replicate 65 0#8)].all (fun i => !i.wellFormed) = true := by decide

/-- The terms above are well formed at the ends of their ranges. -/
theorem test_wellFormed_boundaries : [Instr.linkConfig 0 { LinkConfig.reset with bitTime := 40 },
    .linkConfig 3 { LinkConfig.reset with bitTime := 4000, forwardRetries := 15, forwardLifetime := 16777215 }, .linkConfig 0 LinkConfig.reset,
    .ruleWrite 255 rule, .cyclicSet 31 cyclicArgs, .cyclicSet 0 { cyclicArgs with period := 65535, phase := 65534, budget := 15, length := 64 },
    .queueEnable 1, .queueDisable 12, .storeReserve 128, .ruleCount 256, .twinGroup 0 0#4 0, .twinGroup 3 0b1111#4 1000000,
    .cyclicUpdate 0 64 0#64, .controlEnablesWrite 15#4 3#3, .holdoffExpiry 13].all (fun i => i.wellFormed) = true := by decide

/-! ## The machine, reset and the register window -/

/-- No row of the table has bits. -/
theorem test_decodeTableWord : decodeTableWord 0 0 = none ∧ decodeTableWord 32 0xFFFFFFFF = none := by decide

theorem witness_StepTakesFrontOfQueue :
    ({ live with pending := [.kick 1#32, .classification] } : State).pending = .kick 1#32 :: [.classification] ∧ live.pending = []
      ∧ answers (step { live with pending := [.kick 1#32, .classification] })
          (fun t => t.pending = [.classification] && (t.queue cq).reading && t.time = 0#32) = true
      ∧ answers (step live) (fun t => t.time = 1#32 && t.pending = []) = true := by decide +kernel

theorem witness_ResetsLeaveManualValues : (4#32).extractLsb' 0 3 = 4#3 ∧ (0xF04#32).extractLsb' 0 3 = 4#3
    ∧ answers (exec (.registerWrite .control 0xF04#32) busy)
        (fun t => readRegister .state t = 0x10000#32 && readRegister .control t = 0#32 && t.store.freeCount = 384) = true := by decide +kernel

/-- A host side in this state with this control-block address. -/
def addressed (h : HostState) (hi lo : BitVec 32) : State := { live with host := { live.host with state := h, cbaHi := hi, cbaLo := lo } }

/-- Section 11.7, rows 1 to 3, and the address that is not aligned. -/
theorem witness_ControlWritesFollowHostState :
    [HostState.attaching, .detaching, .detached, .attached, .faulted].all (fun h => (inHost h live).host.state = h) = true
      ∧ ((0x0#32 ++ 0x1000#32 : BitVec 64)).toNat % 64 = 0 ∧ ((0xFFFFFFFF#32 ++ 0xFFFFFFC0#32 : BitVec 64)).toNat % 64 = 0
      ∧ ((0x0#32 ++ 0x1001#32 : BitVec 64)).toNat % 64 ≠ 0 ∧ ((0xFFFFFFFF#32 ++ 0xFFFFFFFF#32 : BitVec 64)).toNat % 64 ≠ 0
      ∧ (3#3 : BitVec 3) ≠ 1#3 ∧ (3#3 : BitVec 3) ≠ 2#3 ∧ (0#3 : BitVec 3) ≠ 4#3
      ∧ answers (exec (.start 11#4) (addressed .detached 0#32 0x1000#32)) (fun t => t.host.state = .attaching && t.host.enables = 11#4) = true
      ∧ answers (exec (.start 11#4) (addressed .detached 0#32 0x1001#32))
          (fun t => t.host.state = .detached && t.host.lastCause = .badControlBlock && irqLine t.host) = true := by decide +kernel

/-- The device FAULTED with its queues as they were. -/
def faulted : State := inHost .faulted live

/-- The bookkeeping of `faulted`. -/
theorem faulted_consistent : Consistent faulted := consistent_of_check (by decide +kernel)

/-- DETACH from ATTACHED with accesses under way is DETACHING, and from FAULTED with none is DETACHED (R142). -/
theorem witness_DetachTearsDownHostSide : Consistent busy ∧ busy.host.state = .attached ∧ Consistent faulted ∧ faulted.host.state = .faulted
    ∧ answers (exec (.detach 8#4) busy) (fun t => t.host.state = .detaching && t.discarded.length = 11
        && { access := .deliveryRecord 0, slot := some 11 } ∈ t.discarded && { access := .dqDeviceWord 1, slot := some 12 } ∈ t.discarded
        && (t.slot 10).count = 0
        && (t.slot 11).count = 1 && (t.slot 12).count = 1 && t.host.enables = 8#4) = true
    ∧ answers (exec (.detach 8#4) faulted) (fun t => t.host.state = .detached && (t.queue stq).state = .disabled) = true :=
  ⟨busy_consistent, by decide +kernel, faulted_consistent, by decide +kernel, by decide +kernel, by decide +kernel⟩

theorem witness_RegisterWindowReadsAndWrites : (inHost .detached live).host.state = .detached ∧ live.host.state ≠ .detached
    ∧ [0x02, 0x05, 0x1D, 0x20].all (fun o => readRegisterAt o live = none ∧ registerWriteAt o 5#32 = none) = true
    ∧ readRegisterAt 0x00 live = some 0x0F440100#32 ∧ readRegisterAt 0x08 live = some 2#32 ∧ readRegisterAt 0x1C live = some 0#32
    ∧ registerWriteAt 0x04 0x301#32 = some (.registerWrite .control 0x301#32) ∧ registerWriteAt 0x14 5#32 = some (.registerWrite .kick 5#32)
    ∧ (0x301#32).extractLsb' 0 3 = 1#3 ∧ (2#32).extractLsb' 0 3 = 2#3
    ∧ answers (exec (.cbaWrite .hi 5#32) (inHost .detached live)) (fun t => readRegister .cbaHi t = 5#32 && readRegister .cbaLo t = 0#32) = true
    ∧ answers (exec (.registerWrite .time 5#32) live) (fun t => t.time = 0#32) = true := by decide +kernel

/-- Section 11.7, rows 4 and 5: the ATTACH cause raises the line and a write of bit 0 releases it; and a write of bit 2 acknowledges every DQ,
whether or not the cause was set (R163). -/
theorem test_irqClear :
    let s := { live with host := raiseCause causeAttach live.host }
    let s := s.modQueue (dq 7) fun x => { x with counted := 3, holdoffEnd := some 9#32 }
    irqLine s.host = true ∧ answers (exec (.irqClear 1#32) s) (fun t => !irqLine t.host && (t.queue (dq 7)).counted = 3) = true
      ∧ answers (exec (.irqClear 4#32) s) (fun t => irqLine t.host && (t.queue (dq 7)).counted = 0 && (t.queue (dq 7)).holdoffEnd = none) = true := by
  decide +kernel

/-! ## Host-memory accesses, index reads and credits -/

/-- A control-block header of format version 1 (section 12.1). -/
def header : List Byte := 1#8 :: List.replicate 63 0#8

/-- A descriptor: base 2000h, 16 entries, no interrupts (section 12.1). -/
def descriptorBytes : List Byte := [0#8, 0x20#8, 0#8, 0#8, 0#8, 0#8, 0#8, 0#8, 16#8, 0#8, 0#8, 0#8, 0#8, 0#8, 0#8, 0#8]

/-- The same with interrupt enable, coalescing count 64 and holdoff 0100h: valid for a DQ and the STQ, not for CQ. -/
def interruptDescriptor : List Byte := [0#8, 0x20#8, 0#8, 0#8, 0#8, 0#8, 0#8, 0#8, 0#8, 16#8, 1#8, 64#8, 0#8, 1#8, 0#8, 0#8]

theorem test_descriptors : descriptorValid cq descriptorBytes = true ∧ descriptorValid stq interruptDescriptor = true
    ∧ descriptorValid cq interruptDescriptor = false ∧ descriptorValid (dq 0) (descriptorBytes.set 0 32#8) = false
    ∧ descriptorOf interruptDescriptor = { base := 0x2000#64, size := 4096, interruptEnable := true, coalesce := 64, holdoff := 256 } := by
  decide +kernel

theorem witness_AttachReadsEndAttaching : (inHost .attaching live).host.state = .attaching
    ∧ headerValid header = true ∧ descriptorValid cq descriptorBytes = true ∧ descriptorValid stq interruptDescriptor = true
    ∧ header.length = 64 ∧ descriptorBytes.length = 16 ∧ descriptorOf (descriptorImage ⟨0xFFFFFFFFFFFFFFC0#64, 65535, true, 255, 65535⟩) =
        ⟨0xFFFFFFFFFFFFFFC0#64, 65535, true, 255, 65535⟩
    ∧ [1#8, 16#8, 33#8, 64#8].all (fun b => (descriptorImage ⟨0#64, b.toNat, false, 0, 0⟩).length = 16) = true
    ∧ descriptorValid (dq 7) (descriptorImage ⟨0#64, 4096, true, 1, 0⟩) = true ∧ descriptorValid (dq 7) (descriptorImage ⟨0#64, 4096, true, 0, 0⟩) = false
    ∧ descriptorValid (sq 3) (descriptorImage ⟨64#64, 16, false, 255, 65535⟩) = true ∧ descriptorValid (sq 3) (descriptorImage ⟨32#64, 16, false, 0, 0⟩) = false
    ∧ descriptorValid (sq 3) (descriptorImage ⟨0#64, 16, true, 64, 0⟩) = false ∧ descriptorValid stq (descriptorImage ⟨0#64, 24, false, 1, 0⟩) = false
    ∧ headerValid (header.set 63 1#8) = false ∧ descriptorValid cq interruptDescriptor = false
    ∧ answers (exec (.attachReadEnd (.data header descriptorBytes interruptDescriptor)) (inHost .attaching live)) (fun t =>
        t.host.state = .attached && t.host.causes = 1#4 && t.status.lap && (t.queue stq).desc.size = 4096 && (t.queue cq).known = 0) = true
    ∧ answers (exec (.attachReadEnd .fault) (inHost .attaching live)) (fun t => readRegister .state t = 0x200#32) = true
    ∧ (hostReads (inHost .attaching live)).map (·.length) = [64, 16, 16]
    ∧ (hostReads (inHost .attaching live)).map (fun r => r.address - controlBlockAddress live.host) = [0#64, 64#64, 272#64] := by
  decide +kernel

/-- A detaching device that still writes the delivery record of slot 11 and reads a payload into slot 20. -/
def detaching : State :=
  let s := hold 20 1 frame (hold 11 1 frame (inHost .detaching live))
  executing (.cyclicSet 9 cyclicArgs) (some (.payloadRead 20)) { s with discarded := [{ access := .deliveryRecord 0, slot := some 11 }] }

/-- A detaching device that writes a frame image. -/
def detachingRead : State :=
  let r : MailboxRead := { mailbox := 7, slot := 11, address := 0#64, ingress := 0, arrival := 0#32, fresh := true, overwrites := 0 }
  executing (.mailboxRead 7 0#64) (some .frameImageWrite) { hold 11 1 frame (inHost .detaching live) with mailboxRead := some r }

theorem witness_DiscardedAccessesEndQuietly :
    detaching.discarded.find? (fun y => y.access = .deliveryRecord 0) = some { access := .deliveryRecord 0, slot := some 11 }
      ∧ HostAccess.deliveryRecord 0 ≠ .commandBuffer
      ∧ Accessing 7#32 (.cyclicSet 9 cyclicArgs) (.payloadRead 20) detaching ∧ detaching.host.state = .detaching
      ∧ ((CommandAccess.payloadRead 20) = .frameImageWrite ↔ detaching.mailboxRead.isSome = true)
      ∧ Accessing 7#32 (.mailboxRead 7 0#64) .frameImageWrite detachingRead ∧ detachingRead.host.state = .detaching
      ∧ (CommandAccess.frameImageWrite = .frameImageWrite ↔ detachingRead.mailboxRead.isSome = true)
      ∧ answers (exec (.hostAccessEnd (.deliveryRecord 0)) detaching)
          (fun t => (t.slot 11).count = 0 && t.discarded = [] && t.host.state = .detaching) = true
      ∧ answers (exec (.hostAccessEnd .commandBuffer) detachingRead) (fun t => (t.slot 11).count = 0 && t.host.state = .detached) = true := by
  unfold Accessing; decide +kernel

theorem witness_QueueAccessFaultsFaultTheQueue : Consistent busy ∧ busy.host.state = .attached
    ∧ [cq, sq 0, dq 0].all (fun q => q ≠ stq ∧ (busy.queue q).state = .active ∧ (busy.queue q).reading = true) = true
    ∧ (busy.queue cq).state = .active ∧ busy.unit.stage = .reading ∧ busy.unit.wordWrite = true
    ∧ (busy.queue (sq 0)).state = .active ∧ (busy.fetcher 0).stage = .reading
    ∧ (busy.queue (sq 1)).state = .active ∧ (busy.fetcher 1).stage = .index
    ∧ (busy.queue (dq 0)).state = .active ∧ (busy.writer 0).stage = .record
    ∧ (busy.queue (dq 1)).state = .active ∧ (busy.writer 1).stage = .index :=
  ⟨busy_consistent, by decide +kernel⟩

/-- The fault of a send record read: the fetch is withdrawn with its slot, place and credit, and QUEUE_FAULT is posted (R139). -/
theorem test_hostMemoryFault : answers (exec (.hostMemoryFault (.sendRecord 0)) busy) (fun t =>
    (t.queue (sq 0)).state = .faulted && (t.fetcher 0).stage = .none && (t.slot 10).count = 0 && !(t.set 0).reserved
      && t.status.reserved = 1 && t.posted.map (·.body) = [.queueFault (sq 0) .hostFault]) = true := by decide +kernel

/-- `busyIndex` is consistent. -/
theorem busyIndex_consistent : Consistent busyIndex := consistent_of_check (by decide +kernel)

theorem witness_StatusRingFaultsStopTheDevice : Consistent busy ∧ busy.host.state = .attached ∧ busy.status.stage = .record
    ∧ (busy.queue stq).reading = true ∧ (busy.queue stq).desc.size ≤ hostWord [16#8, 0#8, 0#8, 0#8] ∧ (busy.queue stq).desc.size ≤ hostWord [0#8, 0#8, 0#8, 1#8]
    ∧ Consistent busyIndex ∧ busyIndex.host.state = .attached ∧ busyIndex.status.stage = .index
    ∧ answers (exec (.hostMemoryFault .stqDeviceWord) busyIndex) (fun t => readRegister .state t = 0x304#32 && irqLine t.host) = true :=
  ⟨busy_consistent, by decide +kernel, by decide +kernel, by decide +kernel, by decide +kernel, by decide +kernel, busyIndex_consistent,
    by decide +kernel⟩

theorem witness_BufferFaultsCompleteHostFault :
    [CommandAccess.descriptorRead, .bufferRead, .linkStatusWrite [], .cyclicStatusWrite [], .ruleImageWrite [] 5#64, .payloadRead 20,
      .frameImageWrite].all (fun a => (executing .ruleCopy (some a) live).unit.execution =
        some { tag := 7#32, command := .ruleCopy, access := some a }) = true
      ∧ live.host.state ≠ .detaching ∧ (inHost .attaching live).host.state = .attaching ∧ live.accessLive .statusRecord = false
      ∧ answers (exec (.hostMemoryFault .commandBuffer) (executing (.ruleRead .active 0 0#64) (some (.ruleImageWrite [] 5#64)) live))
          (fun t => t.status.completions = [.commandDone .hostFault 0x34 7#32 5#64 0#64 0#32]) = true
      ∧ answers (exec (.hostMemoryFault .commandBuffer) (inHost .detaching (executing .ruleCopy (some (.ruleImageWrite [] 5#64)) live)))
          (fun t => t.host.state = .detached && t.status.completions = []) = true := by decide +kernel

/-- A known index 3 and a device index 5 admit 3, 4 and 5; the send queues and CQ any index below the size (R130). -/
theorem witness_KicksReadHostIndices : Consistent busy ∧ QueueSound (busy.queue cq) ∧ QueueSound (busy.queue (dq 0)) ∧ QueueSound (busy.queue stq)
    ∧ [cq, sq 0, dq 0, stq].all (fun q => (busy.queue q).reading) = true ∧ busy.host.state = .attached
    ∧ [(cq, 0), (cq, 15), (dq 0, 3), (dq 0, 5), (stq, 2), (stq, 4)].all (fun p =>
        answers (exec (.indexReadEnd p.1 (leBytes 4 p.2)) busy) (fun t => (t.queue p.1).known = p.2 && (t.queue p.1).state = .active)) = true
    ∧ [(cq, 16), (cq, 0x05000000), (cq, 0xFFFFFFFF), (dq 0, 2), (dq 0, 6), (dq 0, 16)].all (fun p =>
        answers (exec (.indexReadEnd p.1 (leBytes 4 p.2)) busy) (fun t => (t.queue p.1).cause = some .badIndex)) = true
    ∧ [(stq, 1), (stq, 5), (stq, 16)].all (fun p =>
        answers (exec (.indexReadEnd p.1 (leBytes 4 p.2)) busy) (fun t => t.host.state = .faulted)) = true
    ∧ [(cq, 288#64), (dq 0, 328#64), (stq, 392#64)].all (fun p =>
        { access := .indexRead p.1, address := controlBlockAddress busy.host + p.2, length := 4 } ∈ hostReads busy) = true :=
  ⟨busy_consistent, by unfold QueueSound; decide +kernel⟩

/-- A kick starts one read or asks for another, and reaches no bit but its own (R162). -/
theorem test_kick : answers (exec (.kick 0x2021#32) busy) (fun t => (t.queue cq).reread && !(t.queue (sq 0)).reread = false
    && (t.queue (dq 0)).reread && (t.queue stq).reread && !(t.queue (dq 1)).reading) = true
    ∧ answers (exec (.kick 0xFFFFC040#32) live) (fun t => (t.queue (dq 1)).reading && !(t.queue stq).reading) = true := by decide +kernel

/-- The status ring of section 9.14: 12 records unconsumed of at most 15. -/
def nearlyFull : State := live.modQueue stq fun x => { x with device := 12 }

/-- Section 9.14, rows 1 to 5: credits are reserved while free space is above the reserved count, and then the command unit waits. -/
theorem witness_CreditsReserveOrWaitInTurn : live.host.state = .attached ∧ QueueSound (nearlyFull.queue cq) ∧ QueueSound (nearlyFull.queue (sq 0))
    ∧ nearlyFull.host.state = .attached ∧ nearlyFull.unit.stage = .idle ∧ (nearlyFull.queue cq).state = .active
    ∧ (nearlyFull.queue cq).known ≠ (nearlyFull.queue cq).device ∧ (nearlyFull.fetcher 0).stage = .none
    ∧ (nearlyFull.queue (sq 0)).state = .active ∧ (nearlyFull.queue (sq 0)).known ≠ (nearlyFull.queue (sq 0)).device ∧ nearlyFull.credits = 3
    ∧ answers (exec (.creditRequest (.fetcher 0)) nearlyFull)
        (fun t => t.status.reserved = 1 && (t.fetcher 0).stage = .slot && t.credits = 2) = true
    ∧ answers (exec (.creditRequest .commandUnit) { nearlyFull with status := { nearlyFull.status with reserved := 3 } })
        (fun t => t.status.waiters = [.commandUnit] && t.status.reserved = 3) = true
    ∧ answers (exec (.creditRequest .commandUnit) { nearlyFull with status := { nearlyFull.status with waiters := [.fetcher 1] } })
        (fun t => t.status.waiters = [.fetcher 1, .commandUnit] && t.status.reserved = 0) = true := by
  unfold QueueSound; decide +kernel

/-- Section 9.14, row 8: a credit returned goes straight to the waiting command unit. -/
theorem test_giveBackCredit :
    let t := giveBackCredit { nearlyFull with status := { nearlyFull.status with reserved := 3, waiters := [.commandUnit, .fetcher 2] } }
    t.status.reserved = 3 ∧ t.unit.stage = .reading ∧ t.status.waiters = [.fetcher 2] := by decide +kernel

/-- Section 3.9: releases with fetchers waiting and without. -/
theorem witness_ReleaseFreesOrPassesSlot :
    let s := hold 12 1 frame live
    0 < (s.slot 12).count ∧ (s.slot 12).count = 1 ∧ s.store.waiters = [] ∧ (hold 12 2 frame live).slot 12 = { count := 2, frame := frame }
      ∧ { s.store with waiters := [0, 2] }.waiters = 0 :: [2]
      ∧ ((releaseSlot 12 s).slot 12).count = 0
      ∧ (let t := releaseSlot 12 { s with store := { s.store with waiters := [0, 2] } }
         (t.slot 12).count = 1 ∧ t.store.waiters = [2] ∧ (t.fetcher 0).slot = some 12 ∧ (t.fetcher 0).stage = .place) := by decide +kernel

/-! ## The frame on the bus and the links

The stuffed lines below were written out from R1, R2 and R4 by hand calculation outside Lean, most significant bit first. -/

/-- Start mark through check of the frame with key 0120h, sequence 2 and no payload, stuffed. -/
def wire : Line := msbBits 47 0x2241208A986

/-- Start mark through check of the frame with key 0300h, sequence 5 and payload ABh, stuffed. -/
def wirePayload : Line := msbBits 55 0x2608505ABBAA8

theorem test_wire : stuff (frameBits 0x0120#16 2#4 []) = wire ∧ stuff (frameBits 0x0300#16 5#4 [0xAB#8]) = wirePayload
    ∧ stuff (frameBits 0#16 0#4 []) = msbBits 50 0x104104104426 ∧ stuff (frameBits 0xF83E#16 0#4 []) = msbBits 49 0xF82F8208570D := by
  decide +kernel

/-- The check of the nine bytes 31h to 39h is 29B1h for this generator and start value. -/
theorem test_check : checkOf ([0x31, 0x32, 0x33, 0x34, 0x35, 0x36, 0x37, 0x38, 0x39].flatMap (fun n => msbBits 8 n)) = 0x29B1#16 := by
  decide +kernel

/-- This many recessive bit-times. -/
def recessive (n : Nat) : Line := List.replicate n true

/-- This many dominant bit-times. -/
def dominant (n : Nat) : Line := List.replicate n false

/-- Receptions end INTACT, and with each error kind, where R5, R7 and R8 take their ends. -/
theorem test_receptionOutcomes :
    receptionOutcome (wirePayload ++ [false] ++ recessive 7) = some (.intact 0x0300#16 5#4 [0xAB#8])
      ∧ receptionOutcome (wire ++ recessive 8) = some (.intact 0x0120#16 2#4 [])
      ∧ receptionOutcome (wire ++ recessive 7) = none
      ∧ receptionOutcome (wire.dropLast ++ [true] ++ recessive 10) = some (.error .check)
      ∧ receptionOutcome ([false] ++ recessive 6 ++ recessive 10) = some (.error .form)
      ∧ receptionOutcome ([false] ++ msbBits 16 0x5555 ++ msbBits 4 5 ++ msbBits 7 85 ++ recessive 10) = some (.error .length)
      ∧ receptionOutcome (dominant 10 ++ recessive 10) = some (.error .abortSeen)
      ∧ receptionOutcome (dominant 9 ++ recessive 10) = some (.error .form)
      ∧ receptionOutcome (dominant 32) = some (.error .form) := by decide +kernel

/-- The samples, from the start mark on, of an attempt at the frame of `wire` that ends ACKED. -/
def ackedLine : Line := wire ++ [false] ++ recessive 7
/-- The same UNACKED. -/
def unackedLine : Line := wire ++ recessive 8
/-- The same with the last check bit read recessive where dominant was sent. -/
def echoLine : Line := wire.dropLast ++ [true] ++ recessive 10
/-- The same with an abort mark in the end delimiter. -/
def abortLine : Line := wire ++ [true] ++ dominant 10 ++ recessive 10

theorem test_attemptOutcomes : attemptOutcome 0x0120#16 2#4 [] ackedLine = some .acked
    ∧ attemptOutcome 0x0120#16 2#4 [] unackedLine = some .unacked ∧ attemptOutcome 0x0120#16 2#4 [] echoLine = some .echo
    ∧ attemptOutcome 0x0120#16 2#4 [] abortLine = some .abortSeen ∧ attemptOutcome 0x0120#16 2#4 [] unackedLine.dropLast = none
    ∧ attemptOutcome 0x0120#16 2#4 [] (recessive 11) = some .echo ∧ attemptOutcome 0x0120#16 2#4 [] (recessive 1 ++ dominant 32) = some .echo := by
  decide +kernel

/-- Section 1.8: the mark of a receiver that finds the check wrong is 12 dominant bit-times in GOOD and CAUTION and none in MUTED, and of a sender
whose start mark reads recessive too; where the check ends in five equal bits it takes the place of the stuffing bit (log 28). -/
theorem test_abortMarks :
    let wrong := sentThrough (false :: (contentBits 0x0120#16 2#4 [] ++ msbBits 16 0xFFE0))
    online.receiverAbortMark wrong = dominant 12 ∧ online.receiverAbortMark (wrong ++ [true]) = []
      ∧ { online with health := .muted }.receiverAbortMark wrong = [] ∧ { online with mode := .listen }.receiverAbortMark wrong = []
      ∧ { online with health := .caution }.senderAbortMark 0x0120#16 2#4 [] [true] = dominant 12
      ∧ online.acknowledges wire = true ∧ online.acknowledges wrong = false ∧ online.receiverAbortMark (dominant 6 ++ [true]) = [] := by
  decide +kernel

/-- Link L2 of section 2.13 with this score, ONLINE, policy AUTO and HOLD, and the frame of `wire` in flight. -/
def scored (score : Nat) (deferral : Bool) : State :=
  let s := hold 30 1 { frame with key := 0x0120#16, seq := 2#4, payload := [] } live
  let s := s.modLink 2 fun k => { k with score := score, health := healthOf score, deferral := deferral }
  s.modSet 2 fun x => { x with inFlight := some { hostEntry 30 0x0120#16 5#48 with seq := 2#4 } }

/-- Section 2.13, rows 1, 3 and 5. -/
theorem test_attemptEnd_scores :
    answers (exec (.attemptEnd 2 abortLine) (scored 90 false)) (fun t => (t.link 2).score = 96 && (t.link 2).health = .muted
        && (t.link 2).deferral && (t.link 2).counters.txFailedAttempts = 1#32
        && t.posted.map (·.body) = [.linkHealth 2 .caution .muted 96]) = true
      ∧ answers (exec (.attemptEnd 2 unackedLine) (scored 95 false)) (fun t => (t.link 2).score = 98 && (t.link 2).deferral) = true
      ∧ answers (exec (.attemptEnd 2 unackedLine) (scored 98 false)) (fun t => (t.link 2).score = 98 && (t.link 2).deferral
        && t.posted = [] && (t.link 2).counters.txFailedAttempts = 1#32) = true := by decide +kernel

/-- A link L2 in this mode with this probation, score 160 unless ONLINE, receiving since the start mark. -/
def receiving (m : Mode) (probation : Option Nat) (score : Nat) : State :=
  live.modLink 2 fun k =>
    { k with mode := m, probation := probation, score := score, health := healthOf score, reception := some [false] }

/-- Section 2.13, rows 2 and 7: a reception moves the score, and 160 isolates under HOLD with probation from 0. -/
theorem test_receptionEnd_scores :
    answers (exec (.receptionEnd 2 (wire.tail ++ recessive 8)) ((receiving .online none 96).modLink 2 fun k => { k with deferral := true }))
        (fun t => (t.link 2).score = 95 && (t.link 2).health = .caution && !(t.link 2).deferral && (t.link 2).toStore.length = 1) = true
      ∧ answers (exec (.receptionEnd 2 (wire.tail.dropLast ++ [true] ++ recessive 10)) (receiving .online none 158))
        (fun t => (t.link 2).score = 160 && (t.link 2).mode = .isolated && (t.link 2).probation = some 0
          && t.posted.map (·.body) = [.linkState 2 .online .isolated]) = true := by decide +kernel

/-- Section 2.13, row 12: the sixty-fourth clean observation returns the link to ONLINE with score 0 and posts both notices. -/
theorem test_probationCompletes :
    answers (exec (.receptionEnd 2 (wire.tail ++ recessive 8)) (receiving .isolated (some 63) 160)) (fun t => (t.link 2).score = 0
      && (t.link 2).mode = .online && (t.link 2).probation = none && (t.link 2).toStore = []
      && t.posted.map (·.body) = [.linkState 2 .isolated .online, .linkHealth 2 .muted .good 0]) = true := by decide +kernel

/-- A link in this mode at rest. -/
def linkIn (m : Mode) : State := live.modLink 2 fun k => { k with mode := m }

theorem witness_QuietIntervalsAndStuckEpisodes :
    (∀ m ∈ [Mode.joining .online, .joining .listen, .online, .listen, .suspended, .isolated], let s := linkIn m
      LinkSound (s.link 2) ∧ (s.link 2).mode ≠ .offline ∧ (s.link 2).stuck = false ∧ (s.link 2).reception = none
        ∧ (s.set 2).inFlight = none ∧ (s.link 2).mode = m)
      ∧ (let s := live.modLink 2 fun k => { k with following := false, dominantRun := 255 }
         (s.link 2).mode ≠ .offline ∧ (s.link 2).stuck = false ∧ (s.link 2).reception = none ∧ (s.set 2).inFlight = none
          ∧ ((s.link 2).following = false ∨ 0 < (s.link 2).idleIn)
          ∧ answers (exec (.stuckEpisodeStart 2) s) (fun t => (t.link 2).stuck && t.posted.map (·.body) = [.linkStuck 2]) = true)
      ∧ (let s := live.modLink 2 fun k => { k with stuck := true }
         (s.link 2).stuck = true
          ∧ answers (exec (.stuckEpisodeEnd 2) s) (fun t => !(t.link 2).following && t.posted.map (·.body) = [.linkFreed 2]) = true)
      ∧ answers (exec (.quietInterval 2) (linkIn (.joining .listen)))
          (fun t => (t.link 2).mode = .listen && t.posted.map (·.body) = [.linkState 2 (.joining .listen) .listen]) = true := by
  simp only [linkSound_iff]; decide +kernel

theorem witness_ProbationCountsToCompletion :
    ∀ p ∈ [none, some 0, some 62, some 63], let k := (receiving .isolated p 160).link 2; LinkSound k ∧ k.probation = p := by
  simp only [linkSound_iff]; decide +kernel

theorem witness_ScoreChangesSetHealthAndIsolate :
    (∀ n ∈ [0, 47, 48, 95, 96, 159, 254], let k := (receiving .online none n).link 2; LinkSound k ∧ k.mode = .online ∧ k.score = n)
      ∧ (159 < 160 ∧ 254 < 255 ∧ 160 ≤ 160 ∧ 160 ≤ 255) ∧ ((receiving .online none 159).link 2).config.isolateAction = .hold
      ∧ (let s := (receiving .online none 159).modLink 2 fun k => { k with config := { k.config with isolateAction := .flush } }
         LinkSound (s.link 2) ∧ (s.link 2).mode = .online ∧ (s.link 2).config.isolateAction = .flush
          ∧ ((changeScore 2 160 s).link 2).mode = .isolated) := by
  simp only [linkSound_iff]; decide +kernel

/-- R8, R15: a dominant run from the start mark on is 32 bit-times long at the reception's end, and 31 do not end it. A loss of contention counts its
bit-times once too. -/
theorem test_receptionEnd_runs :
    (match exec (.receptionBegin 2) (linkIn .online) with
      | .next s => answers (exec (.receptionEnd 2 (dominant 31)) s) (fun t => (t.link 2).dominantRun = 32 && (t.link 2).recessiveRun = 0
          && (t.link 2).reception = none) && answers (exec (.receptionEnd 2 (dominant 30)) s) (fun t => (t.link 2).reception = some [false])
      | _ => false) = true
      ∧ (match exec (.contentionLost 2 (wire.take 5 ++ [false])) (scored 10 false) with
      | .next s => answers (exec (.receptionEnd 2 (dominant 26)) s) (fun t => (t.link 2).dominantRun = 32)
      | _ => false) = true := by decide +kernel

theorem witness_ReceptionsEndByMode :
    (let k := (linkIn .listen).link 2
     k.mode ≠ .offline ∧ k.following = true ∧ k.stuck = false ∧ k.reception = none ∧ ((linkIn .listen).set 2).inFlight = none)
      ∧ (∀ m ∈ [Mode.joining .online, .online, .listen, .suspended, .isolated], let k := (receiving m none 0).link 2
        k.mode = m ∧ k.mode ≠ .offline ∧ k.reception = some [false])
      ∧ receptionOutcome ([false] ++ (wire.tail ++ recessive 8)) = some (.intact 0x0120#16 2#4 [])
      ∧ receptionOutcome ([false] ++ (wire.tail.dropLast ++ [true] ++ recessive 10)) = some (.error .check) := by decide +kernel

/-- The runs of 9, 10, 31 and 32 in the stuffed part of the frame with key 0 and in an end delimiter; the announced lengths 65 and 127; another check;
the start mark, and the first bit after the key field. -/
theorem witness_WireCarriesFramesIntact : ([] : List Byte).length ≤ 64 ∧ (List.replicate 64 0xFF#8).length ≤ 64
    ∧ trailingRun false 0 ((stuff (frameBits 0#16 0#4 [])).take 5) = 5 ∧ trailingRun true 0 ((stuff (frameBits 0x7C00#16 0#4 [])).take 7) = 5
    ∧ receptionOutcome (dominant 5 ++ dominant 4 ++ recessive 10) = some (.error .form)
    ∧ receptionOutcome (dominant 5 ++ dominant 5 ++ recessive 10) = some (.error .abortSeen)
    ∧ receptionOutcome (dominant 5 ++ dominant 26 ++ recessive 10) = some (.error .abortSeen)
    ∧ receptionOutcome (dominant 5 ++ dominant 27) = some (.error .form)
    ∧ receptionOutcome (wire ++ recessive 7 ++ dominant 9 ++ recessive 10) = some (.error .form)
    ∧ receptionOutcome (wire ++ recessive 7 ++ dominant 10 ++ recessive 10) = some (.error .abortSeen)
    ∧ attemptOutcome 0x0120#16 2#4 [] (wire ++ recessive 7 ++ dominant 9 ++ recessive 10) = some .echo
    ∧ attemptOutcome 0x0120#16 2#4 [] (wire ++ recessive 7 ++ dominant 31 ++ recessive 10) = some .abortSeen
    ∧ attemptOutcome 0x0120#16 2#4 [] (wire ++ recessive 7 ++ dominant 32) = some .echo
    ∧ [65, 127].all (fun n => receptionOutcome (sentThrough (false :: (msbBits 16 0x0120 ++ msbBits 4 2 ++ msbBits 7 n)) ++ recessive 10)
        = some (.error .length)) = true
    ∧ 0xFFE0#16 ≠ checkOf (contentBits 0x0120#16 2#4 [])
    ∧ wire[0]? = some false ∧ (sentThrough (false :: msbBits 16 0x0120)).length = 18 ∧ 18 ≠ wire.length ∧ wire[18]? = some true
    ∧ wire[19]? = some false ∧ wire[17]? = some false ∧ wire[12]? = some true := by decide +kernel

/-- Contention lost by an orphaned entry, by one with a cancellation requested, by one whose deadline is just reached, and by one whose deadline is
not reached (R102). -/
theorem test_contentionLost_dispositions :
    let lost := fun (f : Entry → Entry) => exec (.contentionLost 2 (wire.take 12 ++ [false])) ((scored 10 false).modSet 2 fun x => { x with inFlight := x.inFlight.map f })
    answers (lost fun e => { e with origin := .host 0x51#32 false false true })
        (fun t => (t.set 2).pending = [] && t.status.completions = [] && (t.slot 30).count = 0 && (t.set 2).inFlight = none) = true
      ∧ answers (lost fun e => { e with cancelRequested := true })
        (fun t => t.status.completions = [.sendDone 2 0x51#32 .cancelled 0 0#32] && (t.slot 30).count = 0) = true
      ∧ answers (lost fun e => { e with deadline := some 0#32 })
        (fun t => t.status.completions = [.sendDone 2 0x51#32 .expired 0 0#32] && (t.slot 30).count = 0) = true
      ∧ answers (lost fun e => { e with deadline := some 1#32 })
        (fun t => (t.set 2).pending.length = 1 && (t.slot 30).count = 1) = true := by decide +kernel

/-- Bit-times 5 (a stuffing bit), 9 and 12 after the start mark lie in the key field of `wire` and are sent recessive. -/
theorem witness_ContentionTakesAndReturnsHead :
    (let s := live.modSet 2 fun x => { x with pending := [hostEntry 30 0x0120#16 5#48] }
     (s.set 2).pending = hostEntry 30 0x0120#16 5#48 :: [] ∧ (s.link 2).mode = .online ∧ (s.link 2).deferral = false
      ∧ (s.link 2).following = true ∧ (s.link 2).stuck = false ∧ (s.link 2).reception = none ∧ (s.set 2).inFlight = none
      ∧ answers (exec (.contentionOpportunity 2) s) (fun t => (t.set 2).pending = [] && (t.set 2).inFlight.isSome) = true)
      ∧ (scored 10 false).set 2 = { EgressSet.reset with inFlight := some { hostEntry 30 0x0120#16 5#48 with seq := 2#4 } }
      ∧ (sentThrough (false :: msbBits 16 (0x0120#16).toNat)).length = 18
      ∧ (∀ n ∈ [5, 9, 12], (sentLine 0x0120#16 2#4 [])[n]? = some true
        ∧ losesContention 0x0120#16 2#4 [] (wire.take n ++ [false]) = true
        ∧ answers (exec (.contentionLost 2 (wire.take n ++ [false])) (scored 10 false)) (fun t => (t.link 2).reception = some (wire.take n ++ [false])
          && ((t.set 2).pending.map fun e => (e.admission, e.budget, e.attempts)) = [(5#48, 1, 0)] && (t.link 2).score = 10) = true)
      ∧ [(fun e : Entry => { e with origin := .host 0x51#32 false false true }), fun e => { e with cancelRequested := true },
        fun e => { e with deadline := some 0#32 }, fun e => { e with deadline := some 1#32 }].all (fun f =>
          let e := f { hostEntry 30 0x0120#16 5#48 with seq := 2#4 }
          (((scored 10 false).modSet 2 fun x => { x with inFlight := some e }).set 2).inFlight = some e
            ∧ (e.orphaned = true ∨ e.orphaned = false) ∧ losesContention e.key e.seq [] (wire.take 12 ++ [false]) = true) = true
      ∧ (let opening := [false] ++ List.replicate 16 true ++ [false]
        losesContention 0#16 2#4 [] opening = true ∧ receptionOutcome (opening.take 17) = some (.error .form)
          ∧ receptionEnds opening (recessive 10) = some (.error .form))
      ∧ ((0#32 : Time) - 0#32).toNat < 2 ^ 31 ∧ 2 ^ 31 ≤ ((0#32 : Time) - 1#32).toNat := by
  decide +kernel

/-- R5: bit-time 2 of `wire`, a dominant key bit, is read recessive before the loss at bit-time 12, and stands so in the opening. -/
theorem test_contentionLost_received :
    answers (exec (.contentionLost 2 ([false, false, true] ++ (wire.take 12).drop 3 ++ [false])) (scored 10 false)) (fun t =>
      (t.link 2).reception = some ([false, false, true] ++ (wire.take 12).drop 3 ++ [false])) = true := by decide +kernel

/-- Happenings that cannot arise in these states, of every group of rows; and the ill-formed row that is a reset. -/
theorem witness_EveryHappeningAnswersNext :
    ¬Arises (.quietInterval 2) (scored 10 false) ∧ ¬Arises (.contentionOpportunity 2) (scored 10 true) ∧ ¬Arises (.receptionBegin 2) (linkIn .offline)
      ∧ ¬Arises (.stuckEpisodeStart 2) live ∧ ¬Arises (.attachReadEnd .fault) live ∧ ¬Arises (.hostAdmission 1) live
      ∧ ¬Arises (.commandTaken []) live ∧ ¬Arises .statusRecordWriteEnd live ∧ ¬Arises (.queueStatus 3) live
      ∧ ¬Arises (.mailboxReadWriteEnd .done) live
      ∧ ¬Arises (.holdoffExpiry stq) (live.modQueue stq fun x => { x with holdoffEnd := some 1#32 })
      ∧ (let waits := { hostEntry 30 1#16 4#48 with deadline := some 1#32 }
        let s := live.modSet 2 fun x => { x with pending := [waits] }
        answers (exec (.deadlineExpiry 2 4#48) s) (fun t => (t.set 2).pending = [waits]) = true)
      ∧ answers (exec (.controlEnablesWrite 15#4 4#3) { live with time := 9#32 }) (fun t => t.time = 0#32 && t.host.state = .detached) = true := by
  have idle : live.unit.execution = none := by decide +kernel
  have running : ((live.modQueue stq fun x => { x with holdoffEnd := some 1#32 }).queue stq).holdoffEnd = some 1#32 := by decide +kernel
  refine ⟨by simp only [Arises, NoFrame]; decide +kernel, by simp only [Arises, NoFrame]; decide +kernel,
    by simp only [Arises, NoFrame]; decide +kernel, by simp only [Arises, NoFrame]; decide +kernel, by simp only [Arises]; decide +kernel,
    by simp only [Arises]; decide +kernel, by simp only [Arises]; decide +kernel, by simp only [Arises]; decide +kernel, ?_, ?_, ?_, by decide +kernel,
    by decide +kernel⟩
  · rintro ⟨tag, h⟩
    simp [Handed, idle] at h
  · rintro ⟨tag, c, h⟩
    simp [Accessing, idle] at h
  · rintro ⟨t, h, reached⟩
    obtain rfl := Option.some.inj (running.symm.trans h)
    exact absurd reached (by simp only [Reached]; decide +kernel)

/-! ## Attempts and egress sets -/

/-- `scored 10 false` with the entry in flight changed. -/
def flying (f : Entry → Entry) : State := (scored 10 false).modSet 2 fun x => { x with inFlight := x.inFlight.map f }

/-- The entry in flight in `flying id`. -/
def flyer : Entry := { hostEntry 30 0x0120#16 5#48 with seq := 2#4 }

/-- Every clause: orphaned or not, with LOOPBACK or not, marked, with a deadline reached at its last and first moment, under FLUSH, with budget
and without. -/
theorem witness_AttemptEndsScoreAndDispose :
    (∀ e ∈ [flyer, { flyer with origin := .host 0x51#32 false true true }, { flyer with origin := .host 0x51#32 false false true },
        { flyer with origin := .host 0x51#32 false true false }, { flyer with cancelRequested := true }, { flyer with deadline := some 0#32 },
        { flyer with deadline := some 1#32 }, { flyer with budget := 0 }],
      ((flying fun _ => e).set 2).inFlight = some e ∧ attemptOutcome e.key e.seq ((flying fun _ => e).slot e.slot).frame.payload ackedLine = some .acked
        ∧ attemptOutcome e.key e.seq ((flying fun _ => e).slot e.slot).frame.payload unackedLine = some .unacked)
      ∧ (let s := (scored 158 false).modLink 2 fun k => { k with config := { k.config with isolateAction := .flush } }
         answers (exec (.attemptEnd 2 echoLine) s) (fun t => (t.link 2).mode = .isolated && (t.slot 30).count = 0
          && t.status.completions = [.sendDone 2 0x51#32 .isolated 1 0#32]) = true) := by decide +kernel

/-- Section 7.11, rows 7, 10 and 13 in kind: cancelled whatever the budget, SENT, and returned with one unit of budget less. -/
theorem test_attemptEnd_dispositions :
    answers (exec (.attemptEnd 2 unackedLine) (flying fun e => { e with cancelRequested := true }))
        (fun t => t.status.completions = [.sendDone 2 0x51#32 .cancelled 1 0#32] && (t.link 2).score = 13) = true
      ∧ answers (exec (.attemptEnd 2 ackedLine) (flying fun e => { e with origin := .forward 0 }))
        (fun t => t.status.completions = [] && (t.slot 30).count = 0 && (t.link 2).score = 8 && (t.set 2).inFlight = none) = true
      ∧ answers (exec (.attemptEnd 2 echoLine) (flying id)) (fun t => (t.link 2).score = 16
        && ((t.set 2).pending.map fun e => (e.budget, e.attempts, e.admission)) = [(0, 1, 5#48)]) = true
      ∧ answers (exec (.attemptEnd 2 ackedLine) (flying fun e => { e with origin := .host 0x51#32 false true false }))
        (fun t => t.routing.input = [30] && (t.slot 30).frame.origin = .loopback && (t.slot 30).count = 1) = true := by decide +kernel

theorem witness_EntriesEndByOriginAndOutcome :
    flyer.origin = .host 0x51#32 false false false ∧ SendOutcome.expired ≠ .sent
      ∧ { flyer with origin := .host 1#32 true false false }.origin = .host 1#32 true false false
      ∧ { flyer with origin := .host 1#32 true true true }.origin = .host 1#32 true true true ∧ (forwardEntry 30 0#16 0#48).origin = .forward 0
      ∧ { flyer with origin := .cyclic 31 }.origin = .cyclic 31 := by decide +kernel

theorem witness_ClearedSetsEndInSetOrder :
    let s := hold 31 1 frame (hold 30 1 frame live)
    let s := s.modSet 1 fun x => { x with pending := [hostEntry 30 1#16 4#48, forwardEntry 31 2#16 3#48] }
    let t := clearPending 1 .flushed s
    (t.set 1).pending = [] ∧ t.status.completions = [.sendDone 1 0x51#32 .flushed 0 0#32] ∧ (t.link 1).counters.forwardDropDown = 1#32
      ∧ (t.slot 30).count = 0 ∧ (t.slot 31).count = 0
      ∧ (let w := s.modSet 1 fun x => { x with waiting := true }
        (w.set 1).waiting = true ∧ ((clearPending 1 .flushed w).set 1).reserved = true
          ∧ ((clearPending 1 .flushed w).fetcher 1).stage = .reading) := by decide +kernel

/-- A set of L1 with so many FORWARD entries pending, in a state where each has its slot. -/
def crowded (n : Nat) : State :=
  live.modSet 1 fun x => { x with
    pending := (List.range n).map fun i => forwardEntry (Fin.ofNat 384 (100 + i)) 0x0100#16 (BitVec.ofNat 48 i), counter := 200#48 }

/-- A fetch of SQ1 that has its credit and slot 40. -/
def placing (n : Nat) : State := (hold 40 1 frame (crowded n)).modFetcher 1 fun f => { f with stage := .place, slot := some 40 }

/-- A checked record of SQ1 in slot 40 and its reserved place, on a link in this mode. -/
def admitting (m : Mode) (lifetime : Nat) : State :=
  let s := (hold 40 1 frame (crowded 2)).modFetcher 1 fun f => { f with stage := .index, admission := some {
    slot := 40, tag := 0x52#32, key := 0x0080#16, seq := 3#4, budget := 2, silent := true, loopback := false, lifetime := lifetime } }
  (s.modSet 1 fun x => { x with reserved := true }).modLink 1 fun k =>
    { k with mode := m, config := { k.config with isolateAction := .flush } }

/-- Occupancy 47 grants the place and 48 does not (R97); a deadline counts from the slot's arrival time (R98). -/
theorem witness_PlacesAndHostAdmissions :
    (∀ n ∈ [0, 47, 48], let s := placing n
      (s.fetcher 1).stage = .place ∧ (s.fetcher 1).admission = none ∧ (s.set 1).waiting = false ∧ (s.set 1).reserved = false
        ∧ (s.set 1).pending.length = n ∧ (s.set 1).inFlight = none)
      ∧ answers (exec (.placeRequest 1) (placing 47)) (fun t => (t.set 1).reserved && (t.fetcher 1).stage = .reading) = true
      ∧ answers (exec (.placeRequest 1) (placing 48)) (fun t => (t.set 1).waiting && (t.fetcher 1).stage = .place) = true
      ∧ (∀ m ∈ [Mode.offline, .isolated, .online, .suspended], ((admitting m 0).fetcher 1).admission ≠ none
        ∧ ((admitting m 0).set 1).waiting = false ∧ ((admitting m 0).link 1).mode = m
        ∧ ((admitting m 0).link 1).config.isolateAction = .flush)
      ∧ answers (exec (.hostAdmission 1) (admitting .suspended 16777215)) (fun t => ((t.set 1).pending.map fun e => (e.admission, e.deadline)).head?
        = some (200#48, some 16777715#32) && (t.set 1).counter = 201#48 && !(t.set 1).reserved && (t.slot 40).count = 1) = true
      ∧ answers (exec (.hostAdmission 1) (admitting .offline 0)) (fun t => t.status.completions = [.sendDone 1 0x52#32 .linkDown 0 0#32]
        && (t.slot 40).count = 0) = true := by decide +kernel

/-- The classification of section 4.10 in dispatch, with these hand-overs not yet answered. -/
def dispatching (links : List (LinkId × Key)) (queues : List (DeliveryId × BitVec 16)) (mailboxes : List MailboxId) (s : State) : State :=
  let c : Classification :=
    { entry := 211, time := 1000000#32, firstRule := some 0, links := links, queues := queues, mailboxes := mailboxes, twinGroup := some 1,
      stage := .dispatch, outLinks := links, outQueues := queues, outMailboxes := mailboxes }
  let s := hold 211 1 frame s
  { s with routing := { s.routing with input := [211], classification := some c } }

/-- L1 with this mode and action, and so many entries pending. -/
def destination (m : Mode) (action : IsolateAction) (n : Nat) : State :=
  dispatching [(1, 0x0150#16), (3, 0x0523#16)] [] [] ((crowded n).modLink 1 fun k =>
    { k with mode := m, config := { k.config with isolateAction := action, forwardLifetime := 20000 } })

/-- Section 4.10, the FORWARD hand-overs: accepted with budget 3 and deadline 1,020,000; refused under FLUSH; and full at 48. -/
theorem witness_ForwardAdmissionsFollowDestination :
    (∀ p ∈ [(Mode.online, 10), (.online, 47), (.online, 48), (.offline, 0), (.isolated, 0)], let s := destination p.1 .flush p.2
      s.routing.classification.all (fun c => c.stage = .dispatch && c.outLinks = [(1, 0x0150#16), (3, 0x0523#16)]) = true
        ∧ s.routing.classification.isSome = true ∧ (s.link 1).mode = p.1 ∧ (s.set 1).pending.length = p.2)
      ∧ answers (exec (.forwardAdmission 1) (destination .online .hold 10)) (fun t => (t.set 1).pending.length = 11 && (t.slot 211).count = 2
        && (t.set 1).pending.any (fun e => e.key = 0x0150#16 && e.seq = 6#4 && e.budget = 3 && e.deadline = some 1020000#32)) = true
      ∧ answers (exec (.forwardAdmission 1) (destination .isolated .flush 0))
        (fun t => (t.link 1).counters.forwardDropDown = 1#32 && (t.slot 211).count = 1) = true
      ∧ answers (exec (.forwardAdmission 1) (destination .online .hold 48)) (fun t => (t.link 1).counters.forwardDropFull = 1#32) = true := by
  decide +kernel

/-- The request of section 8.9, row 12, waiting for L1: entry 3 asks with slot 61 and this policy. -/
def requesting (policy : OverrunPolicy) (m : Mode) (x : EgressSet → EgressSet) : State :=
  let s := (hold 62 1 frame (hold 61 2 frame live)).modEntry 3 fun e =>
    { e with state := .armed, link := 1, requests := [{ slot := 61, key := 0x0240#16, seq := 7#4, budget := 1, period := 50, policy := policy,
                                                        time := 110000#32 }] }
  (s.modSet 1 x).modLink 1 fun k => { k with mode := m }

/-- A copy of entry 3 in slot 62. -/
def oldCopy : Entry := { forwardEntry 62 0x0240#16 8#48 with origin := .cyclic 3 }

/-- Section 8.9, row 13, and the other cases of R100. -/
theorem witness_EmissionRequestsAnsweredByFirstCase :
    (∀ p ∈ [OverrunPolicy.skip, .replace], ∀ m ∈ [Mode.online, .suspended],
      ((requesting p m fun x => { x with pending := [oldCopy] }).entry 3).requests.map (·.policy) = [p]
        ∧ ((requesting p m id).link 1).mode = m ∧ ((requesting p m fun x => { x with pending := [oldCopy] }).set 1).pending = [] ++ oldCopy :: []
        ∧ ((requesting p m fun x => { x with inFlight := some oldCopy }).set 1).inFlight = some oldCopy
        ∧ ((requesting p m id).set 1).pending = [])
      ∧ ((requesting .skip .online fun _ => (crowded 48).set 1).set 1).pending.length = 48
      ∧ (∀ y ∈ ((requesting .skip .online fun _ => (crowded 48).set 1).set 1).pending, y.origin ≠ .cyclic 3)
      ∧ answers (exec (.emissionRequest 3) (requesting .replace .online fun x => { x with pending := [oldCopy] })) (fun t =>
        (t.entry 3).inbox = [.answer .replaced] && (t.slot 62).count = 0 && (t.slot 61).count = 2
          && ((t.set 1).pending.map fun e => (e.slot, e.seq, e.deadline)) = [(61, 7#4, some 115000#32)]) = true
      ∧ answers (exec (.emissionRequest 3) (requesting .skip .online fun x => { x with pending := [oldCopy] })) (fun t =>
        (t.entry 3).inbox = [.answer .skipped] && (t.slot 61).count = 1 && (t.slot 62).count = 1) = true := by decide +kernel

/-- The set of section 7.11 at row 9, with F2 and its key in flight, on L1 at 10,600 microseconds; H2 is marked live with tag 52h. -/
def row9 : State :=
  let h2 : Entry := { hostEntry 71 0x0480#16 103#48 with origin := .host 0x52#32 false false false, deadline := some 10600#32 }
  let s := hold 73 1 frame (hold 72 1 frame (hold 71 1 frame (hold 70 1 frame live)))
  { s.modSet 1 fun x => { x with
      pending := [forwardEntry 70 0x0300#16 102#48, h2, { oldCopy with slot := 72, key := 0x0600#16, admission := 100#48 }]
      inFlight := some { hostEntry 73 0x0100#16 104#48 with attempts := 2 } } with time := 10600#32 }

/-- Section 7.11, rows 5, 9 and 12: a cancel of the entry in flight marks it, a pending one leaves, an unknown tag is not found. -/
theorem witness_ExpiryCancelAndFlush :
    (row9.set 1).pending.Pairwise (fun a b => a.admission ≠ b.admission)
      ∧ ((row9.set 1).pending[1]?.map fun e => (e.deadline, (row9.time - 10600#32).toNat)) = some (some 10600#32, 0)
      ∧ ((row9.set 1).inFlight.toList ++ (row9.set 1).pending).Pairwise (fun a b => a.admission ≠ b.admission)
      ∧ answers (exec (.deadlineExpiry 1 103#48) row9) (fun t => t.status.completions = [.sendDone 1 0x52#32 .expired 0 10600#32]
        && (t.set 1).pending.map (·.slot) = [70, 72] && (t.slot 71).count = 0) = true
      ∧ answers (exec (.sendCancel 1 0x51#32) (executing (.sendCancel 1 0x51#32) none row9)) (fun t => (t.set 1).inFlight.any (·.cancelRequested)
        && t.status.completions = [.commandDone .inFlight 0x20 7#32 2#64 0#64 10600#32]) = true
      ∧ answers (exec (.sendCancel 1 0x52#32) (executing (.sendCancel 1 0x52#32) none row9)) (fun t => t.status.completions =
        [.sendDone 1 0x52#32 .cancelled 0 10600#32, .commandDone .ok 0x20 7#32 0#64 0#64 10600#32]) = true
      ∧ answers (exec (.sendCancel 1 0x53#32) (executing (.sendCancel 1 0x53#32) none row9)) (fun t =>
        t.status.completions = [.commandDone .notFound 0x20 7#32 0#64 0#64 10600#32]) = true
      ∧ answers (exec (.egressFlush 1) (executing (.egressFlush 1) none row9)) (fun t => (t.set 1).pending = []
        && t.status.completions.getLast? = some (.commandDone .ok 0x21 7#32 0x1010101#64 0#64 10600#32)
        && (t.entry 3).inbox = [.ended .dropped]) = true := by decide +kernel

/-! ## The frame store and the routing engine -/

/-- The store of section 3.9: slots 40, 41 and 97 FREE, every other HELD, and the reserve 2. -/
def pressed : State :=
  let s := { live with store := { slots := Vector.replicate 384 { count := 1, frame := frame }, reserve := 2, waiters := [] } }
  hold 97 0 frame (hold 41 0 frame (hold 40 0 frame s))

/-- The store with nothing FREE. -/
def fullStore : State := { live with store := { slots := Vector.replicate 384 { count := 1, frame := frame }, reserve := 2, waiters := [] } }

/-- Slot 40 is the lowest FREE one of `pressed`. -/
theorem pressed_lowest : LowestFree 40 pressed := lowestFree_of_counts (by decide +kernel) (by decide +kernel)

/-- Slot 0 is the lowest FREE one of `live`, and slot 383 of a store with that one alone. -/
theorem live_lowest : LowestFree 0 live ∧ LowestFree 383 (hold 383 0 frame fullStore) :=
  ⟨lowestFree_of_counts (by decide +kernel) (by decide +kernel), lowestFree_of_counts (by decide +kernel) (by decide +kernel)⟩

/-- No slot of `fullStore` is FREE. -/
theorem fullStore_full (i : SlotId) : (fullStore.slot i).count ≠ 0 := noneFree_of_counts (by decide +kernel) i

/-- Frames on their way from L1 into `s`. -/
def arriving (s : State) : State := s.modLink 1 fun k => { k with toStore := [frame, frame] }

/-- Every clause on the store of section 3.9; entry 4 has the template 12, held twice. -/
theorem witness_StoreGrantsLowestFreeSlot :
    LowestFree 40 pressed ∧ ({ pressed.slot 40 with count := 1 } : Slot).count = 1
      ∧ (((arriving pressed).link 1).toStore = frame :: [frame] ∧ (arriving pressed).store.reserve < (arriving pressed).store.freeCount)
      ∧ ((pressed.modFetcher 2 fun f => { f with stage := .slot }).fetcher 2).stage = .slot ∧ (2 : LinkId) ∉ pressed.store.waiters
      ∧ (pressed.entry 9).state = .empty ∧ 0 < cyclicArgs.length ∧ (pressed.entry 9).template ≠ some 40
      ∧ (let s := (hold 12 2 frame pressed).modEntry 4 fun x => { x with state := .idle, template := some 12 }
         (s.entry 4).template = some 12 ∧ 2 ≤ (s.slot 12).count ∧ (s.entry 4).state ≠ .empty
          ∧ answers (exec (.cyclicUpdateApply [1#8]) (executing (.cyclicUpdate 4 1 0#64) (some .bufferRead) s))
            (fun t => (t.entry 4).template = some 40 && (t.slot 40).count = 1 && (t.slot 12).count = 1 && t.store.freeCount = 2) = true) :=
  ⟨pressed_lowest, by decide +kernel⟩

/-- Section 3.9, rows 1 to 4: a reception above the reserve, one not above it, and a fetcher whatever the reserve. -/
theorem test_slotRequests :
    answers (exec (.receptionSlotRequest 1) (arriving pressed)) (fun t => (t.slot 40).count = 1 && (t.link 1).toInput = [40] && t.store.freeCount = 2
        && answers (exec (.receptionSlotRequest 1) t) (fun u => u.store.freeCount = 2 && (u.link 1).counters.dropNoSlot = 1#32
          && (u.link 1).toStore = [])) = true
      ∧ answers (exec (.sendFetchSlotRequest 2) (pressed.modFetcher 2 fun f => { f with stage := .slot }))
        (fun t => (t.fetcher 2).slot = some 40 && (t.fetcher 2).stage = .place) = true := by decide +kernel

/-- Section 3.9, row 10: STORE_RESERVE 0 reports the reserve 2 and the free count. -/
theorem witness_StoreRefusalsWaitsAndReserve :
    (let s := arriving (hold 97 1 frame pressed)
     (s.link 1).toStore = frame :: [frame] ∧ s.store.freeCount ≤ s.store.reserve)
      ∧ (∀ i : SlotId, ((fullStore.modFetcher 0 fun f => { f with stage := .slot }).slot i).count ≠ 0)
      ∧ (let s := fullStore.modFetcher 0 fun f => { f with stage := .slot }
         (s.fetcher 0).stage = .slot ∧ (0 : LinkId) ∉ s.store.waiters)
      ∧ Handed 7#32 (.storeReserve 0) (executing (.storeReserve 0) none pressed)
      ∧ answers (exec (.storeReserve 0) (executing (.storeReserve 0) none pressed)) (fun t => t.store.reserve = 0
        && t.status.completions = [.commandDone .ok 5 7#32 0x30002#64 0#64 0#32]) = true := by
  unfold Handed; exact ⟨by decide +kernel, fullStore_full, by decide +kernel⟩

/-- An input list of so many entries, with slot 50 of L1 to append. -/
def listed (n : Nat) : State :=
  let s := (hold 50 1 frame live).modLink 1 fun k => { k with toInput := [50] }
  { s with routing := { s.routing with input := (List.range n).map fun i => Fin.ofNat 384 (200 + i) } }

/-- The sixteenth entry joins and the seventeenth is refused (R53); section 4.10's classification end. -/
theorem witness_InputListAppendsAndEnds :
    (∀ n ∈ [0, 15, 16], ((listed n).link 1).toInput = 50 :: [] ∧ (listed n).routing.input.length = n)
      ∧ answers (exec (.inputListAppend 1) (listed 15)) (fun t => t.routing.input.getLast? = some 50 && t.routing.input.length = 16) = true
      ∧ answers (exec (.inputListAppend 1) (listed 16))
        (fun t => (t.slot 50).count = 0 && (t.link 1).counters.dropInputFull = 1#32 && t.routing.input.length = 16) = true
      ∧ (loopbackAppend 1 50 (listed 16)).routing.input.length = 16 ∧ ((loopbackAppend 1 50 (listed 15)).slot 50).frame.origin = .loopback
      ∧ (let s := dispatching [] [] [] live
         s.routing.classification.all (fun c => c.stage = .dispatch && c.outLinks.isEmpty && c.outQueues.isEmpty && c.outMailboxes.isEmpty
            && c.entry = 211) = true ∧ s.routing.classification.isSome = true ∧ s.routing.input = [] ++ (211 : SlotId) :: [] ∧ (211 : SlotId) ∉ []
          ∧ answers (exec .classificationEnd s) (fun t => t.routing.input = [] && t.routing.classification = none && (t.slot 211).count = 0)
            = true) := by decide +kernel

/-- The five rules of section 4.10. -/
def chained : Bank :=
  let rules := Bank.reset.rules
  let rules := rules.set 0 rule
  let rules := rules.set 1 { rule with
    ingress := 1#4, origin := .received, keyValue := 0x0520#16, keyMask := 0xFFF0#16, lengthMin := 8, links := 2#4, rewriteKey := none,
    delivery := 0x20#8, tag := 0x0055#16, mailbox := none, continueWalk := false }
  let rules := rules.set 2 { rule with
    ingress := 15#4, origin := .received, keyValue := 0#16, keyMask := 0#16, links := 13#4, rewriteKey := none, delivery := 9#8,
    tag := 0x0022#16, mailbox := some 9, twin := some 1 }
  let rules := rules.set 3 { rule with
    ingress := 1#4, origin := .received, keyValue := 0x0523#16, keyMask := 0xFFFF#16, links := 0#4, rewriteKey := none, delivery := 8#8,
    tag := 0x0033#16, continueWalk := false }
  let rules := rules.set 4 { rule with
    ingress := 15#4, keyValue := 0#16, keyMask := 0#16, links := 0#4, rewriteKey := none, delivery := 0x80#8, tag := 0xFFFE#16,
    mailbox := none, continueWalk := false }
  { rules := rules, count := 5 }

/-- Section 4.10: the walk of the frame from L0, and of its copy from L1. -/
theorem test_walk : chained.walk frame =
      { first := some 0, links := [(2, 0x0150#16), (0, 0x0523#16), (3, 0x0523#16)], queues := [(0, 0x0011#16), (3, 0x0022#16)],
        mailboxes := [7, 9], twin := some 1 }
    ∧ chained.walk { frame with ingress := 1 } =
      { first := some 0, links := [(2, 0x0150#16), (0, 0x0523#16), (3, 0x0523#16)],
        queues := [(0, 0x0011#16), (3, 0x0022#16), (7, 0xFFFE#16)], mailboxes := [7, 9], twin := some 1 } := by decide +kernel

/-- A frame in slot 211, the oldest of the input list, against the rules of section 4.10 as bank A. -/
def classifying (f : Frame) : State :=
  let s := hold 212 1 f (hold 211 1 f live)
  { s with routing := { s.routing with bankA := chained, input := [211, 212] }, time := 1000000#32 }

/-- Section 4.10 up to the twin check; an origin no rule allows matches nothing. -/
theorem witness_ClassificationTakesOldestEntry :
    (∀ f ∈ [frame, { frame with origin := .host }], (classifying f).routing.classification = none
        ∧ (classifying f).routing.input = 211 :: [212])
      ∧ (chained.walk frame).first ≠ none ∧ (chained.walk { frame with origin := .host }).first = none
      ∧ (chained.walk frame).twin ≠ none ∧ frame.origin = .received
      ∧ answers (exec .classification (classifying frame)) (fun t => t.routing.classification.any (fun c => c.stage = .twinWait
        && c.links = [(2, 0x0150#16), (3, 0x0523#16)] && c.queues = [(0, 0x0011#16), (3, 0x0022#16)] && c.mailboxes = [7, 9]
        && c.time = 1000000#32) && t.routing.input = [211, 212]) = true
      ∧ answers (exec .classification (classifying { frame with origin := .host }))
        (fun t => (t.link 0).counters.dropUnmatched = 1#32 && t.routing.classification.any (·.answered)) = true := by decide +kernel

theorem witness_RuleWriteAndTableSwap :
    Handed 7#32 (.ruleWrite 255 rule) (executing (.ruleWrite 255 rule) none live) ∧ live.routing.active = .a
      ∧ Handed 7#32 .tableSwap (executing .tableSwap none { live with routing := { live.routing with active := .b } })
      ∧ answers (exec (.ruleWrite 255 rule) (executing (.ruleWrite 255 rule) none live))
        (fun t => t.routing.bankB.rules[255] = rule && t.routing.bankA.rules[255] = Rule.reset) = true
      ∧ answers (exec .tableSwap (executing .tableSwap none { live with routing := { live.routing with bankB := chained } }))
        (fun t => t.routing.active = .b && t.status.completions = [.commandDone .ok 0x33 7#32 0x50001#64 0#64 0#32]) = true := by
  unfold Handed; decide +kernel

/-- A count of 256 is accepted and 257 refused; RULE_COPY copies the active bank's rules and count (R70, R71). -/
theorem witness_RuleCountAndRuleCopyEditStaging :
    256 < 2 ^ 16 ∧ 257 < 2 ^ 16 ∧ 65535 < 2 ^ 16 ∧ decodeCommand (encodeCommand 7#32 (.ruleCount 256)) = .ok (.ruleCount 256)
      ∧ decodeCommand (encodeCommand 7#32 (.ruleCount 257)) = .error .badArgument
      ∧ Handed 7#32 (.ruleCount 256) (executing (.ruleCount 256) none live) ∧ Handed 7#32 .ruleCopy (executing .ruleCopy none live)
      ∧ answers (exec (.ruleCount 256) (executing (.ruleCount 256) none { live with routing := { live.routing with bankB := chained } }))
        (fun t => t.routing.bankB.count = 256 && t.status.completions = [.commandDone .ok 0x31 7#32 5#64 0#64 0#32]) = true
      ∧ answers (exec .ruleCopy (executing .ruleCopy none { live with routing := { live.routing with bankA := chained } }))
        (fun t => t.routing.bankB.count = 5 && t.routing.bankB.rules[4] = chained.rules[4]) = true := by
  unfold Handed; decide +kernel

/-! ## The twin filter and the mailboxes -/

/-- A twin entry. -/
def twinEntry (g : GroupId) (key : Key) (seq : Seq) (first : LinkId) (expiry : Time) : TwinEntry :=
  { group := g, key := key, seq := seq, first := first, expiry := expiry }

/-- The table of section 5.7: E1, E2 and E3, and so many others of group 2. -/
def twinTable (others : Nat) : List TwinEntry :=
  [twinEntry 2 0x0710#16 3#4 2 520000#32, twinEntry 0 0x0040#16 9#4 0 500600#32, twinEntry 2 0x0711#16 3#4 3 549000#32]
    ++ (List.range others).map fun i => twinEntry 2 (BitVec.ofNat 16 (0x1000 + i)) 0#4 2 549500#32

/-- The groups of section 5.7 over a table, at a check of this frame under this group. -/
def checking (g : GroupId) (f : Frame) (table : List TwinEntry) : State :=
  let c : Classification :=
    { entry := 211, time := 500100#32, firstRule := some 0, links := [(2, 0x0150#16)], queues := [(0, 0x0011#16)], mailboxes := [7],
      twinGroup := some g, stage := .twinWait, outLinks := [], outQueues := [], outMailboxes := [] }
  let s := hold 211 1 f live
  let s := s.modGroup 0 fun x => { x with links := 3#4, window := 2000 }
  let s := s.modGroup 2 fun x => { x with links := 12#4, window := 50000 }
  { s with routing := { s.routing with input := [211], classification := some c }, twin := { s.twin with table := table }, time := 500100#32 }

/-- A frame of this key and sequence from this link. -/
def copy (key : Key) (seq : Seq) (l : LinkId) (arrival : Time) : Frame :=
  { frame with key := key, seq := seq, ingress := l, arrival := arrival }

/-- The tables of section 5.7 are sound, with one entry fewer and one more than none. -/
theorem twin_tables_sound : ∀ n ∈ [0, 60, 61], TwinSound (checking 0 (copy 0x0042#16 1#4 0 500080#32) (twinTable n)) := by
  unfold TwinSound TwinEntry.sameFrame; decide +kernel

/-- Section 5.7: rows 1 (an eviction), 4 (a twin), 5 (a repeat) and 6 (room); and a link outside the group. -/
theorem test_twinCheck :
    answers (exec .twinCheck (checking 0 (copy 0x0042#16 1#4 0 500080#32) (twinTable 61))) (fun t =>
        t.twin.table.length = 64 && t.twin.table.getLast? = some (twinEntry 0 0x0042#16 1#4 0 502080#32) && (t.group 0).passed = 1
          && (t.group 2).evicted = 1 && t.twin.table.head? = some (twinEntry 0 0x0040#16 9#4 0 500600#32)) = true
      ∧ answers (exec .twinCheck (checking 2 (copy 0x0711#16 3#4 2 500490#32) (twinTable 61))) (fun t => t.twin.table.length = 63
        && (t.group 2).suppressed = 1 && t.routing.classification.any (·.answered)) = true
      ∧ answers (exec .twinCheck (checking 2 (copy 0x0710#16 3#4 2 500790#32) (twinTable 60))) (fun t => t.twin.table.length = 63
        && t.twin.table.getLast? = some (twinEntry 2 0x0710#16 3#4 2 550790#32) && (t.group 2).passed = 1) = true
      ∧ answers (exec .twinCheck (checking 0 (copy 0x0060#16 4#4 0 500990#32) (twinTable 60))) (fun t => t.twin.table.length = 64
        && t.twin.table.getLast? = some (twinEntry 0 0x0060#16 4#4 0 502990#32) && (t.group 2).evicted = 0) = true
      ∧ answers (exec .twinCheck (checking 0 (copy 0x0040#16 9#4 2 500990#32) (twinTable 60))) (fun t => t.twin.table = twinTable 60
        && (t.group 0).passed = 0 && t.routing.classification.any (fun c => c.outLinks = [(2, 0x0150#16)] && c.outMailboxes = [7])) = true := by
  decide +kernel

theorem witness_TwinChecksPassOrSuppress :
    (let s := checking 0 (copy 0x0042#16 1#4 0 500080#32) (twinTable 61)
     s.routing.classification.all (fun c => c.stage = .twinWait && c.twinGroup = some 0 && c.entry = 211) = true
      ∧ s.routing.classification.isSome = true ∧ (s.group 0).links.getLsbD 0 = true ∧ (s.group 0).links.getLsbD 2 = false
      ∧ s.twin.table = twinEntry 2 0x0710#16 3#4 2 520000#32 :: (twinTable 61).tail ∧ s.twin.table.length = 64
      ∧ (∀ e ∈ s.twin.table, ¬(e.group = 0 ∧ e.key = 0x0042#16 ∧ e.seq = 1#4)))
      ∧ (twinTable 60).length < 64
      ∧ twinTable 0 = [twinEntry 2 0x0710#16 3#4 2 520000#32] ++ twinEntry 0 0x0040#16 9#4 0 500600#32 :: [twinEntry 2 0x0711#16 3#4 3 549000#32] := by
  decide +kernel

/-- An expiry is due exactly at its time; a flush takes the group's entries; TWIN_GROUP with a changed window takes them too, and with the
configuration the group has leaves them (R80, R82, R83). -/
theorem witness_TwinEntriesLeaveByExpiryAndCommand :
    TwinSound (checking 0 (copy 0x0042#16 1#4 0 500080#32) (twinTable 0))
      ∧ (500600#32 - 500600#32 : Time).toNat < 2 ^ 31 ∧ (500601#32 - 500600#32 : Time).toNat < 2 ^ 31
      ∧ answers (exec (.twinExpiry 0 0x0040#16 9#4) { checking 0 frame (twinTable 0) with time := 500600#32 })
        (fun t => t.twin.table.length = 2) = true
      ∧ answers (exec (.twinExpiry 0 0x0040#16 9#4) { checking 0 frame (twinTable 0) with time := 500599#32 })
        (fun t => t.twin.table.length = 3) = true
      ∧ Handed 7#32 (.twinFlush 2) (executing (.twinFlush 2) none (checking 0 frame (twinTable 0)))
      ∧ answers (exec (.twinFlush 2) (executing (.twinFlush 2) none (checking 0 frame (twinTable 0)))) (fun t => t.twin.table.length = 1
        && t.status.completions = [.commandDone .ok 0x41 7#32 2#64 0#64 500100#32]) = true
      ∧ Handed 7#32 (.twinGroup 2 12#4 50000) (executing (.twinGroup 2 12#4 50000) none (checking 0 frame (twinTable 0)))
      ∧ ((checking 0 frame []).group 2).links = 12#4 ∧ ((checking 0 frame []).group 2).window = 50000
      ∧ ((checking 0 frame []).group 2).window ≠ 50001 ∧ ((checking 0 frame []).group 2).links ≠ 0#4
      ∧ answers (exec (.twinGroup 2 12#4 50000) (executing (.twinGroup 2 12#4 50000) none (checking 0 frame (twinTable 0)))) (fun t =>
        t.twin.table.length = 3 && t.status.completions = [.commandDone .ok 0x40 7#32 0x2000000000000#64 0#64 500100#32]) = true
      ∧ answers (exec (.twinGroup 2 0#4 50000) (executing (.twinGroup 2 0#4 50000) none (checking 0 frame (twinTable 0)))) (fun t =>
        t.twin.table.length = 1 && (t.group 2).window = 0) = true :=
  ⟨twin_tables_sound 0 (by decide), by unfold Handed; decide +kernel⟩

/-- Mailbox 7 of section 6.8 with notify on and this content, fresh flag and count, in a dispatch of slot 211 to it. -/
def storing (content : Option MailboxContent) (fresh : Bool) (n : Nat) : State :=
  dispatching [] [] [7] ((hold 300 1 frame live).modMailbox 7 fun _ => { content := content, fresh := fresh, overwrites := n, notify := true })

/-- Content in slot 300 from L1. -/
def content300 : MailboxContent := { slot := 300, arrival := 77#32, ingress := 1 }

/-- Section 6.8, rows 1 and 2, and the limit of the count. -/
theorem witness_MailboxStoresReplaceContent :
    (∀ n ∈ [0, 254, 255], (storing (some content300) true n).routing.classification.all
        (fun c => c.stage = .dispatch && c.outMailboxes = 7 :: []) = true)
      ∧ (storing none false 0).routing.classification.isSome = true
      ∧ answers (exec (.mailboxStore 7) (storing none false 0)) (fun t => (t.mailbox 7).fresh && (t.mailbox 7).overwrites = 0
        && t.posted.map (·.body) = [.mailboxFresh 7 0x0523#16 0] && (t.slot 211).count = 2) = true
      ∧ answers (exec (.mailboxStore 7) (storing (some content300) true 0)) (fun t => (t.mailbox 7).fresh && (t.mailbox 7).overwrites = 1
        && t.posted = [] && (t.slot 300).count = 0 && (t.mailbox 7).content.map (·.slot) = some 211) = true
      ∧ answers (exec (.mailboxStore 7) (storing (some content300) true 255)) (fun t => (t.mailbox 7).overwrites = 255) = true := by
  decide +kernel

/-- Mailbox 7 holding slot 300 fresh with count 1. -/
def fullMailbox : State := (hold 300 1 frame live).modMailbox 7 fun x => { x with content := some content300, fresh := true, overwrites := 1 }

/-- Section 6.8, rows 3, 5 and 6. -/
theorem witness_MailboxCommandsReadClearAndConfigure :
    Handed 7#32 (.mailboxRead 7 0x40#64) (executing (.mailboxRead 7 0x40#64) none fullMailbox)
      ∧ (fullMailbox.mailbox 6).content = none ∧ (fullMailbox.mailbox 7).content = some content300
      ∧ answers (exec (.mailboxRead 7 0x40#64) (executing (.mailboxRead 7 0x40#64) none fullMailbox)) (fun t =>
        !(t.mailbox 7).fresh && (t.mailbox 7).overwrites = 0 && (t.slot 300).count = 2
          && answers (exec (.mailboxReadWriteEnd .done) t) (fun u => (u.slot 300).count = 1
            && u.status.completions = [.commandDone .ok 0x51 7#32 0x101#64 0#64 0#32])) = true
      ∧ answers (exec (.mailboxRead 6 0x40#64) (executing (.mailboxRead 6 0x40#64) none fullMailbox)) (fun t =>
        t.status.completions = [.commandDone .empty 0x51 7#32 0#64 0#64 0#32]) = true
      ∧ Accessing 7#32 (.mailboxRead 7 0#64) .frameImageWrite detachingRead ∧ detachingRead.mailboxRead.isSome = true
      ∧ detachingRead.host.state = .detaching ∧ (inHost .attached detachingRead).host.state ≠ .detaching
      ∧ Handed 7#32 (.mailboxClear 7) (executing (.mailboxClear 7) none fullMailbox)
      ∧ answers (exec (.mailboxClear 7) (executing (.mailboxClear 7) none fullMailbox)) (fun t => (t.mailbox 7).content = none
        && (t.slot 300).count = 0 && t.status.completions = [.commandDone .ok 0x52 7#32 0x103#64 0#64 0#32]) = true
      ∧ Handed 7#32 (.mailboxConfig 7 true) (executing (.mailboxConfig 7 true) none fullMailbox)
      ∧ answers (exec (.mailboxConfig 7 true) (executing (.mailboxConfig 7 true) none fullMailbox)) (fun t => (t.mailbox 7).notify
        && t.status.completions = [.commandDone .ok 0x50 7#32 2#64 0#64 0#32]) = true := by
  unfold Handed Accessing; decide +kernel

/-! ## Cyclic transmission -/

/-- The entry of section 8.9 over slot 60 held so many times, at this time. -/
def scheduled (n : Nat) (now : Time) : State :=
  let s := (hold 60 n { frame with key := 0x0240#16, seq := 5#4, origin := .cyclic } live).modEntry 3 fun x => { x with
    state := .armed, link := 2, key := 0x0240#16, period := 50, policy := .replace, budget := 1, template := some 60, seq := 5#4,
    nextDue := some 100000#32, counters := { x.counters with emitted := 20, sent := 20 } }
  { s with time := now }

/-- The state with this handed back to entry 3 first. -/
def handed (m : CyclicMessage) (s : State) : State := s.modEntry 3 fun x => { x with inbox := [m, .answer .skipped], unanswered := 2 }

/-- Section 8.9, rows 1, 3, 7 and 14. -/
theorem witness_EmissionsAnswersAndEndsCount :
    (let x := (scheduled 1 100000#32).entry 3
     x.state = .armed ∧ x.nextDue = some 100000#32 ∧ x.template = some 60 ∧ ((100000#32 : Time) - 100000#32).toNat < 2 ^ 31)
      ∧ answers (exec (.emission 3) (scheduled 1 100000#32)) (fun t => (t.slot 60).count = 2 && (t.entry 3).seq = 6#4
        && (t.entry 3).nextDue = some 105000#32 && (t.entry 3).requests.map (·.seq) = [5#4] && (t.entry 3).unanswered = 1) = true
      ∧ answers (exec (.emission 3) (scheduled 1 99999#32)) (fun t => (t.entry 3).requests = []) = true
      ∧ (∀ m ∈ [CyclicMessage.answer .admitted, .answer .replaced, .answer .skipped, .ended .sent, .ended .failed, .ended .expired,
        .ended .dropped], ((handed m live).entry 3).inbox = m :: [.answer .skipped])
      ∧ answers (exec (.emissionAnswer 3) (handed (.answer .admitted) (scheduled 2 0#32))) (fun t => (t.entry 3).outstanding
        && (t.entry 3).counters.emitted = 21 && (t.entry 3).unanswered = 1) = true
      ∧ answers (exec (.emissionAnswer 3) (handed (.answer .replaced) (scheduled 2 0#32))) (fun t => (t.entry 3).counters.emitted = 21
        && (t.entry 3).counters.replaced = 1) = true
      ∧ answers (exec (.copyEnd 3) (handed (.ended .sent) ((scheduled 2 0#32).modEntry 3 fun x => { x with outstanding := true })))
        (fun t => !(t.entry 3).outstanding && (t.entry 3).counters.sent = 21 && (t.entry 3).unanswered = 2) = true
      ∧ answers (exec (.copyEnd 3) (handed (.ended .failed) ((scheduled 2 0#32).modEntry 3 fun x =>
        { x with counters := { x.counters with failed := 65535 } }))) (fun t => (t.entry 3).counters.failed = 65535) = true := by decide +kernel

/-- Section 10.10: entry 9 ARMED, or IDLE, on L1 with its copy outstanding and its template in slot 30. -/
def example10 (st : ScheduleState) (outstanding : Bool) (s : State) : State :=
  s.modEntry 9 fun x => { x with
    state := st, link := 1, template := if st = .empty then none else some 30, outstanding := outstanding, period := 20
    nextDue := if st = .armed then some 0#32 else none }

/-- The command of section 10.10, row 2, and the same with no payload. -/
def set9 : Command := .cyclicSet 9 cyclicArgs

/-- Section 10.10, rows 2 and 4, and its text: WRONG_STATE in ARMED and in IDLE with a copy, then NO_SPACE, then the slot and the read. -/
theorem witness_CyclicSetTakesTemplate :
    (∀ p ∈ [(ScheduleState.armed, true), (.idle, true), (.idle, false), (.empty, false)],
      Handed 7#32 set9 (executing set9 none (example10 p.1 p.2 live)) ∧ ((example10 p.1 p.2 live).entry 9).state = p.1
        ∧ ((example10 p.1 p.2 live).entry 9).outstanding = p.2)
      ∧ 0 < cyclicArgs.length ∧ { cyclicArgs with length := 0 }.length = 0 ∧ live.host.state ≠ .detaching
      ∧ answers (exec (.cyclicSet 9 cyclicArgs) (executing set9 none (example10 .armed true live))) (fun t =>
        t.status.completions = [.commandDone .wrongState 0x60 7#32 0x102#64 0#64 0#32]) = true
      ∧ answers (exec (.cyclicSet 9 cyclicArgs) (executing set9 none (example10 .idle true live))) (fun t =>
        t.status.completions = [.commandDone .wrongState 0x60 7#32 0x101#64 0#64 0#32] && (t.entry 9).template = some 30) = true
      ∧ answers (exec (.cyclicSet 9 cyclicArgs) (executing set9 none (example10 .idle false fullStore))) (fun t =>
        t.status.completions = [.commandDone .noSpace 0x60 7#32 0#64 0#64 0#32]) = true
      ∧ answers (exec (.cyclicSet 9 cyclicArgs) (executing set9 none (example10 .empty false pressed))) (fun t => (t.slot 40).count = 1
        && answers (exec (.cyclicSetReadEnd [1#8, 2#8, 3#8, 4#8]) t) (fun u => (u.entry 9).state = .idle && (u.entry 9).template = some 40
          && (u.slot 40).frame = { key := 0x0240#16, seq := 0#4, payload := [1#8, 2#8, 3#8, 4#8], ingress := 1, origin := .cyclic, arrival := 0#32 }
          && u.status.completions = [.commandDone .ok 0x60 7#32 0#64 0#64 0#32])) = true
      ∧ Accessing 7#32 set9 (.payloadRead 20) detaching ∧ detaching.host.state = .detaching ∧ ([1#8, 2#8, 3#8, 4#8] : List Byte).length = cyclicArgs.length := by
  unfold Handed Accessing; decide +kernel

/-- Entry 3 of `pressed` with its template in slot 12, held so many times. -/
def updating (n : Nat) (s : State) : State :=
  (hold 12 n { frame with key := 0x0240#16 } s).modEntry 3 fun x => { x with state := .idle, link := 2, template := some 12 }

/-- Section 8.9, rows 5 and 8: NEW_SLOT and IN_PLACE; and WRONG_STATE in EMPTY. -/
theorem witness_CyclicUpdateAppliesByCount :
    (let c := Command.cyclicUpdate 3 2 0x80#64
     Handed 7#32 c (executing c none live) ∧ (live.entry 3).state = .empty ∧ Handed 7#32 c (executing c none (updating 2 pressed))
      ∧ ((updating 2 pressed).entry 3).state ≠ .empty ∧ 0 < 2 ∧ Accessing 7#32 c .bufferRead (executing c (some .bufferRead) (updating 1 pressed))
      ∧ ([8#8, 9#8] : List Byte).length = 2 ∧ ((updating 1 pressed).slot 12).count = 1 ∧ ((updating 2 pressed).slot 12).count ≠ 1
      ∧ ((updating 2 fullStore).slot 12).count ≠ 1 ∧ pressed.host.state ≠ .detaching
      ∧ Accessing 7#32 c .bufferRead (inHost .detaching (executing c (some .bufferRead) (updating 1 pressed)))
      ∧ answers (exec (.cyclicUpdate 3 2 0x80#64) (executing c none live)) (fun t =>
        t.status.completions = [.commandDone .wrongState 0x63 7#32 0#64 0#64 0#32]) = true
      ∧ answers (exec (.cyclicUpdateApply [8#8, 9#8]) (executing c (some .bufferRead) (updating 2 pressed))) (fun t =>
        (t.entry 3).template = some 40 && (t.slot 12).count = 1 && (t.slot 40).frame.payload = [8#8, 9#8] && (t.slot 40).frame.key = 0x0240#16
          && t.status.completions = [.commandDone .ok 0x63 7#32 1#64 0#64 0#32]) = true
      ∧ answers (exec (.cyclicUpdateApply [8#8, 9#8]) (executing c (some .bufferRead) (updating 1 pressed))) (fun t =>
        (t.entry 3).template = some 12 && (t.slot 12).frame.payload = [8#8, 9#8] && (t.slot 40).count = 0
          && t.status.completions = [.commandDone .ok 0x63 7#32 0#64 0#64 0#32]) = true)
      ∧ (let c := Command.cyclicUpdate 3 0 0x80#64
         Handed 7#32 c (executing c none (updating 1 pressed))
          ∧ answers (exec (.cyclicUpdate 3 0 0x80#64) (executing c none (updating 1 pressed))) (fun t => (t.slot 12).frame.payload = []) = true) := by
  unfold Handed Accessing; decide +kernel

/-- Section 10.10, row 3, and the other states of entry 9. -/
theorem witness_CyclicStartStopAndClearByState :
    (∀ p ∈ [(ScheduleState.empty, false), (.idle, false), (.idle, true), (.armed, true)],
      Handed 7#32 (.cyclicStart 9) (executing (.cyclicStart 9) none (example10 p.1 p.2 live))
        ∧ Handed 7#32 (.cyclicStop 9) (executing (.cyclicStop 9) none (example10 p.1 p.2 live))
        ∧ Handed 7#32 (.cyclicClear 9) (executing (.cyclicClear 9) none (example10 p.1 p.2 live))
        ∧ ((example10 p.1 p.2 live).entry 9).state = p.1 ∧ ((example10 p.1 p.2 live).entry 9).outstanding = p.2
        ∧ ((example10 p.1 p.2 live).entry 9).unanswered = 0)
      ∧ answers (exec (.cyclicStop 9) (executing (.cyclicStop 9) none (example10 .armed true live))) (fun t => (t.entry 9).state = .idle
        && (t.entry 9).nextDue = none && t.status.completions = [.commandDone .ok 0x62 7#32 1#64 0#64 0#32]) = true
      ∧ answers (exec (.cyclicStart 9) (executing (.cyclicStart 9) none ((example10 .idle false live).modEntry 9 fun x => { x with phase := 5 })))
        (fun t => (t.entry 9).state = .armed && (t.entry 9).nextDue = some 500#32
          && t.status.completions = [.commandDone .ok 0x61 7#32 500#64 0#64 0#32]) = true
      ∧ answers (exec (.cyclicClear 9) (executing (.cyclicClear 9) none (hold 30 1 frame (example10 .idle false live)))) (fun t =>
        t.entry 9 = ScheduleEntry.reset && (t.slot 30).count = 0) = true
      ∧ answers (exec (.cyclicClear 9) (executing (.cyclicClear 9) none (example10 .armed true live))) (fun t =>
        t.status.completions = [.commandDone .wrongState 0x64 7#32 0x102#64 0#64 0#32]) = true := by
  unfold Handed; decide +kernel

/-! ## Host queues -/

/-- `live` with the command unit reading a record. -/
def reading : State := { live with unit := { live.unit with stage := .reading }, status := { live.status with reserved := 1 } }

/-- The record of TABLE_SWAP with tag A1B2C3D4h, written out from section 12.5. -/
def swapRecord : List Byte := [0x33#8, 0#8, 0#8, 0#8, 0xD4#8, 0xC3#8, 0xB2#8, 0xA1#8] ++ List.replicate 56 0#8

/-- The record of CYCLIC_SET of section 10.10, row 1 (phase not less than the period), written out from section 12.5. -/
def badPhaseRecord : List Byte :=
  [0x60#8, 0#8, 0#8, 0#8, 1#8, 0#8, 0#8, 0#8, 0#8, 0x10#8, 0#8, 0#8, 0#8, 0#8, 0#8, 0#8, 9#8, 0#8, 1#8, 1#8, 0x40#8, 2#8, 20#8, 0#8, 20#8, 0#8,
    1#8, 4#8] ++ List.replicate 36 0#8

/-- An unknown code, a nonzero reserved byte, and the two records above: the checks of R145. -/
theorem test_decodeCommand : decodeCommand (0x06#8 :: swapRecord.tail) = .error .unknownCommand
    ∧ decodeCommand (swapRecord.set 63 1#8) = .error .badArgument ∧ decodeCommand swapRecord = .ok .tableSwap
    ∧ commandTag swapRecord = 0xA1B2C3D4#32 ∧ decodeCommand badPhaseRecord = .error .badArgument
    ∧ decodeCommand (badPhaseRecord.set 24 5#8) = .ok (.cyclicSet 9 cyclicArgs) := by decide +kernel

theorem witness_CommandsAreTakenAndChecked :
    field (0x06#8 :: swapRecord.tail) 0 1 = 6 ∧ reading.unit.stage = .reading ∧ reading.host.state = .attached
      ∧ decodeCommand badPhaseRecord = .error .badArgument ∧ decodeCommand (encodeCommand 5#32 .nop) = .ok .nop
      ∧ decodeCommand swapRecord = .ok .tableSwap ∧ Command.tableSwap ≠ .nop ∧ busy.unit.wordWrite = true
      ∧ answers (exec (.commandTaken badPhaseRecord) reading) (fun t => (t.queue cq).device = 1 && t.unit.stage = .finishing
        && t.status.completions = [.commandDone .badArgument 0x60 1#32 0#64 0#64 0#32]) = true
      ∧ answers (exec (.commandTaken swapRecord) reading) (fun t => t.unit.wordWrite && t.unit.execution =
        some { tag := 0xA1B2C3D4#32, command := .tableSwap, access := none }) = true
      ∧ answers (exec (.nop 5#32) reading) (fun t => t.status.completions = [.commandDone .ok 1 5#32 0#64 0#64 0#32]
        && answers (exec .cqDeviceWordWriteEnd t) (fun u => u.unit.stage = .idle)) = true := by decide +kernel

/-- A send record written out from section 12.2: tag 0000_0051h, key 0300h, sequence 6, length 2, budget 15, SILENT, deadline 010203h. -/
def sendRecord : List Byte :=
  [0x51#8, 0#8, 0#8, 0#8, 0#8, 3#8, 6#8, 2#8, 15#8, 1#8, 0#8, 0#8, 3#8, 2#8, 1#8] ++ List.replicate 17 0#8 ++ [0xAA#8, 0xBB#8]
    ++ List.replicate 62 0#8

/-- Section 3.9, row 8 (a length of 70), the reserved byte 15, and a record that passes. -/
theorem witness_SendRecordsAreTakenAndChecked :
    (busy.fetcher 0).stage = .reading ∧ (busy.fetcher 0).slot = some 10 ∧ (busy.set 0).waiting = false ∧ (busy.fetcher 1).stage = .index
      ∧ field sendRecord 7 1 ≤ 64 ∧ field (sendRecord.set 7 64#8) 7 1 ≤ 64 ∧ 64 < field (sendRecord.set 7 65#8) 7 1
      ∧ field sendRecord 6 1 ≤ 15 ∧ field sendRecord 8 1 ≤ 15 ∧ ¬field (sendRecord.set 8 16#8) 8 1 ≤ 15
      ∧ answers (exec (.sendRecordTaken 0 sendRecord) busy) (fun t => (t.fetcher 0).admission = some
          { slot := 10, tag := 0x51#32, key := 0x0300#16, seq := 6#4, budget := 15, silent := true, loopback := false, lifetime := 0x010203 }
        && (t.slot 10).frame.payload = [0xAA#8, 0xBB#8] && (t.slot 10).frame.origin = .host && (t.queue (sq 0)).device = 1) = true
      ∧ answers (exec (.sendRecordTaken 0 (sendRecord.set 7 70#8)) busy) (fun t => (t.slot 10).count = 0 && !(t.set 0).reserved
        && t.status.completions = [.sendDone 0 0x51#32 .rejectedBadLength 0 0#32]) = true
      ∧ answers (exec (.sendRecordTaken 0 (sendRecord.set 15 1#8)) busy) (fun t =>
        t.status.completions = [.sendDone 0 0x51#32 .rejectedBadField 0 0#32]) = true
      ∧ answers (exec (.sqDeviceWordWriteEnd 1) busy) (fun t => (t.fetcher 1).stage = .none) = true := by decide +kernel

/-- DQ3 with so many entries in its backlog and its arm, as the next delivery hand-over of slot 211. -/
def delivering (n : Nat) (arm : Bool) : State :=
  dispatching [] [(3, 0x0022#16)] [] (live.modWriter 3 fun w => { w with
    backlog := List.replicate n { slot := 5, tag := 0#16, firstRule := none }, arm := arm })

/-- Section 4.10, the backlog hand-overs: the eighth entry accepted, the ninth refused with DELIVERY_DROPPED; and the three stages of a write. -/
theorem witness_DeliveriesAppendWriteAndDrop :
    (∀ n ∈ [0, 7, 8], (delivering n true).routing.classification.all (fun c => c.stage = .dispatch && c.outQueues = (3, 0x0022#16) :: []) = true
        ∧ ((delivering n true).writer 3).backlog.length = n ∧ (delivering n true).host.state = .attached
        ∧ ((delivering n true).queue (dq 3)).state = .active)
      ∧ answers (exec (.backlogAppend 3) (delivering 7 true)) (fun t => (t.writer 3).backlog.length = 8 && (t.slot 211).count = 2) = true
      ∧ answers (exec (.backlogAppend 3) (delivering 8 true)) (fun t => (t.writer 3).drops = 1#32 && !(t.writer 3).arm && (t.slot 211).count = 1
        && t.posted.map (·.body) = [.deliveryDropped 3 1#32]) = true
      ∧ (let s := live.modWriter 0 fun w => { w with backlog := { slot := 11, tag := 0x11#16, firstRule := some 0 } :: [] }
         s.host.state = .attached ∧ (s.queue (dq 0)).state = .active ∧ (s.writer 0).stage = .idle
          ∧ (s.writer 0).backlog = { slot := 11, tag := 0x11#16, firstRule := some 0 } :: []
          ∧ ((s.queue (dq 0)).device + 1) % (s.queue (dq 0)).desc.size ≠ (s.queue (dq 0)).known
          ∧ (let s := s.modQueue (dq 0) fun x => { x with device := 15 }
             ((s.queue (dq 0)).device + 1) % (s.queue (dq 0)).desc.size = (s.queue (dq 0)).known
              ∧ answers (exec (.deliveryWriteStart 0) s) (fun t => (t.writer 0).stage = .idle) = true)
          ∧ answers (exec (.deliveryWriteStart 0) s) (fun t => (t.writer 0).stage = .record) = true)
      ∧ (busy.writer 0).stage = .record ∧ (busy.writer 1).stage = .index
      ∧ (busy.writer 1).backlog = { slot := 12, tag := 0x22#16, firstRule := none } :: []
      ∧ answers (exec (.deliveryRecordWriteEnd 0) busy) (fun t => (t.queue (dq 0)).device = 6 && (t.writer 0).stage = .index) = true
      ∧ answers (exec (.dqDeviceWordWriteEnd 1) busy) (fun t => (t.writer 1).backlog = [] && (t.slot 12).count = 0) = true
      ∧ [([] : List Byte), List.replicate 64 0xFF#8].all (fun p => p.length ≤ 64) = true ∧ frame.origin = .received
      ∧ { frame with origin := .loopback }.origin = .loopback
      ∧ (let r := deliveryRecord { frame with origin := .loopback, payload := List.replicate 64 0xFF#8, ingress := 3, seq := 15#4, arrival := 0xFFFFFFFF#32 }
           { slot := 211, tag := 0xFFFF#16, firstRule := some 255 }
         r.length = 96 ∧ field r 0 2 = 0x203 ∧ field r 4 4 = 0xFFFF400F ∧ field r 8 4 = 255 ∧ field r 12 8 = 0xFFFFFFFF
          ∧ r.drop 32 = List.replicate 64 0xFF#8) := by decide +kernel

/-- A delivery record of section 4.10's frame (section 12.3): key 0523h, not the rewritten key. -/
theorem test_deliveryRecord : (deliveryRecord frame { slot := 211, tag := 0x0011#16, firstRule := some 0 }).take 34 =
    [0#8, 0#8, 0x23#8, 0x05#8, 6#8, 4#8, 0x11#8, 0#8, 0#8, 0#8, 0#8, 0#8, 0xF4#8, 1#8, 0#8, 0#8] ++ List.replicate 16 0#8 ++ [0x10#8, 0x20#8]
    ∧ (deliveryRecord frame { slot := 211, tag := 0x0011#16, firstRule := none }).length = 96 := by decide +kernel

/-- Section 9.14 with this device index, known host index 10, notices, lost count and completions. -/
def status (device lost : Nat) (completions : List Completion) (notices : List Notice) : State :=
  let s := live.modQueue stq fun x => { x with device := device, known := 10 }
  { s with status := { s.status with completions := completions, reserved := completions.length }, notices := notices, lost := lost }

/-- A completion and a notice. -/
def done : Completion := .commandDone .ok 1 7#32 0#64 0#64 0#32
/-- A notice. -/
def noted : Notice := { body := .linkStuck 1, time := 3#32 }

/-- Section 9.14, rows 11 and 12: the notice takes a credit and NOTICES_LOST(1) joins; the device index wraps and the lap value flips. -/
theorem witness_StatusRecordsAreWrittenInOrder :
    (let s := status 14 1 [done] [noted]
     s.host.state = .attached ∧ s.status.stage = .idle ∧ (s.queue stq).state = .active ∧ s.status.completions = done :: []
      ∧ answers (exec .statusWriteStart s) (fun t => t.status.current = some (.completion done) && t.notices = [noted]) = true)
      ∧ (let s := status 14 1 [] [noted]
         s.status.completions = [] ∧ s.notices = noted :: []
          ∧ answers (exec .statusWriteStart s) (fun t => t.status.current = some (.notice noted) && t.lost = 0
            && t.notices.map (·.body) = [.noticesLost 1] && t.credits = 10) = true)
      ∧ (let s := status 9 0 [] [noted]
         (s.queue stq).freeSpace = 0 ∧ s.status.completions = [] ∧ s.notices = noted :: []
          ∧ answers (exec .statusWriteStart s) (fun t => t.status.stage = .idle && t.notices = [noted]) = true)
      ∧ (let s := { (status 15 0 [] []) with status := { StatusWriter.reset with stage := .record, current := some (.completion done), reserved := 1,
                                                                                 lap := true } }
         s.status.stage = .record ∧ s.status.current = some (.completion done)
          ∧ answers (exec .statusRecordWriteEnd s) (fun t => (t.queue stq).device = 0 && !t.status.lap && t.status.reserved = 0
            && t.status.stage = .index) = true)
      ∧ busy.status.stage = .record ∧ busy.status.current = some (.notice { body := .linkStuck 0, time := 9#32 })
      ∧ busyIndex.status.stage = .index
      ∧ answers (exec .stqDeviceWordWriteEnd busyIndex) (fun t => t.status.stage = .idle) = true
      ∧ (hostWrites busy).any (fun w => w.access = .statusRecord && w.last = some 0 && w.bytes.length = 32) = true
      ∧ (255 < 256 ∧ 0x65 < 256 ∧ 160 ≤ 255 ∧ 65535 ≤ 65535)
      ∧ field (statusRecord true (.completion (.sendDone 3 0xFFFFFFFF#32 .rejectedBadField 255 0#32))) 0 10 = 0xFFFFFFFFFF00030A81
      ∧ field (statusRecord false (.notice { body := .noticesLost 65535, time := 0#32 })) 0 12 = 0xFFFF0000000000000803
      ∧ field (statusRecord true (.notice { body := .deliveryDropped 7 0xFFFFFFFF#32, time := 0#32 })) 0 16 = 0xFFFFFFFF00000000000C0683 := by
  decide +kernel

/-- Status records written out from section 12.4: a COMMAND_DONE in lap 1 and a LINK_HEALTH notice in lap 0. -/
theorem test_statusRecord :
    statusRecord true (.completion (.commandDone .wrongState 0x60 7#32 0x102#64 0#64 0x01020304#32)) =
        [0x82#8, 1#8, 0x60#8, 0#8, 7#8, 0#8, 0#8, 0#8, 2#8, 1#8, 0#8, 0#8, 0#8, 0#8, 0#8, 0#8] ++ List.replicate 8 0#8
          ++ [4#8, 3#8, 2#8, 1#8, 0#8, 0#8, 0#8, 0#8]
      ∧ statusRecord false (.notice { body := .linkHealth 2 .caution .muted 96, time := 0#32 }) =
        [3#8, 2#8, 2#8, 0#8, 0#8, 0#8, 0#8, 0#8, 1#8, 2#8, 96#8] ++ List.replicate 21 0#8 := by decide +kernel

/-- DQ2 with interrupt enable set, a coalescing count of 3 and this holdoff, so many records counted and this holdoff end. -/
def coalescing (counted holdoff : Nat) (holdoffEnd : Option Time) : State :=
  live.modQueue (dq 2) fun x => { x with
    desc := { x.desc with interruptEnable := true, coalesce := 3, holdoff := holdoff }, counted := counted, holdoffEnd := holdoffEnd }

/-- Section 9.14, row 9, at the sixteenth and seventeenth notice; and coalescing at its count, at its holdoff and with a holdoff of 0. -/
theorem witness_NoticesQueueAndRecordsCoalesce :
    (∀ n ∈ [0, 15, 16], ({ live with posted := noted :: [], notices := List.replicate n noted } : State).posted = [] ++ noted :: [])
      ∧ answers (exec (.noticePost (.link 1)) { live with posted := [noted], notices := List.replicate 15 noted })
        (fun t => t.notices.length = 16 && t.posted = [] && t.lost = 0) = true
      ∧ answers (exec (.noticePost (.link 1)) { live with posted := [noted], notices := List.replicate 16 noted })
        (fun t => t.notices.length = 16 && t.posted = [] && t.lost = 1) = true
      ∧ 5 ≤ (dq 2).val ∧ 5 ≤ stq.val ∧ ((coalescing 1 100 (some 0#32)).queue (dq 2)).holdoffEnd = some 0#32
      ∧ ((0#32 : Time) - 0#32).toNat < 2 ^ 31
      ∧ answers (exec (.holdoffExpiry (dq 2)) (coalescing 1 100 (some 0#32))) (fun t => t.host.causes = 4#4
        && (t.queue (dq 2)).holdoffEnd = none) = true
      ∧ (live.queue (dq 2)).desc.interruptEnable = false ∧ ((coalescing 0 0 none).queue (dq 2)).desc.interruptEnable = true
      ∧ (countRecord (dq 2) (coalescing 2 100 (some 9#32))).host.causes = 4#4
      ∧ (countRecord (dq 2) (coalescing 1 100 (some 9#32))).host.causes = 0#4
      ∧ ((countRecord (dq 2) (coalescing 0 100 none)).queue (dq 2)).holdoffEnd = some 100#32
      ∧ (countRecord (dq 2) (coalescing 0 0 none)).host.causes = 4#4 := by decide +kernel

/-! ## Commands of queues and links -/

/-- DQ2 disabled, with 5 drops counted. -/
def disabled : State := (live.modQueue (dq 2) fun x => { x with state := .disabled }).modWriter 2 fun w => { w with drops := 5#32 }

theorem witness_QueueEnableLoadsAndQueueStatusReports :
    (let c := Command.queueEnable (dq 2)
     Handed 7#32 c (executing c none live) ∧ (live.queue (dq 2)).state ≠ .disabled ∧ Handed 7#32 c (executing c none disabled)
      ∧ (disabled.queue (dq 2)).state = .disabled ∧ Accessing 7#32 c .descriptorRead (executing c (some .descriptorRead) disabled)
      ∧ disabled.host.state ≠ .detaching ∧ descriptorValid (dq 2) interruptDescriptor = true
      ∧ descriptorValid (dq 2) (interruptDescriptor.set 11 65#8) = false ∧ descriptorValid (sq 3) descriptorBytes = true ∧ (Machine.sq 3).val < 5
      ∧ Accessing 7#32 c .descriptorRead (inHost .detaching (executing c (some .descriptorRead) disabled))
      ∧ answers (exec (.queueEnable (dq 2)) (executing c none live)) (fun t =>
        t.status.completions = [.commandDone .wrongState 2 7#32 1#64 0#64 0#32]) = true
      ∧ answers (exec (.queueEnableDescriptorReadEnd (.data interruptDescriptor)) (executing c (some .descriptorRead) disabled)) (fun t =>
        (t.queue (dq 2)).state = .active && (t.queue (dq 2)).desc.size = 4096 && (t.writer 2).arm && (t.writer 2).drops = 5#32) = true)
      ∧ (∀ q ∈ [cq, sq 3, dq 2, stq], Handed 7#32 (.queueStatus q) (executing (.queueStatus q) none disabled))
      ∧ answers (exec (.queueStatus (dq 2)) (executing (.queueStatus (dq 2)) none disabled)) (fun t => (t.writer 2).drops = 0#32 && (t.writer 2).arm
        && t.status.completions = [.commandDone .ok 4 7#32 0x100000#64 0x500000000#64 0#32]) = true := by
  unfold Handed Accessing; decide +kernel

/-- `busy` with a QUEUE_DISABLE in execution instead of a record being read. -/
def disabling (q : QueueId) : State :=
  executing (.queueDisable q) none { busy with unit := { busy.unit with wordWrite := false } }

/-- The bookkeeping of `disabling`. -/
theorem disabling_consistent : Consistent (disabling (sq 0)) ∧ Consistent (disabling (dq 0)) :=
  ⟨consistent_of_check (by decide +kernel), consistent_of_check (by decide +kernel)⟩

theorem witness_QueueDisableEndsTheQueuesWork :
    Consistent (disabling (sq 0)) ∧ Handed 7#32 (.queueDisable (sq 0)) (disabling (sq 0)) ∧ Consistent (disabling (dq 0))
      ∧ Handed 7#32 (.queueDisable (dq 0)) (disabling (dq 0))
      ∧ answers (exec (.queueDisable (sq 0)) (disabling (sq 0))) (fun t => (t.queue (sq 0)).state = .disabled && (t.fetcher 0).stage = .none
        && (t.slot 10).count = 0 && !(t.set 0).reserved && t.discarded.map (·.access) = [.sendRecord 0, .indexRead (sq 0)]) = true :=
  ⟨disabling_consistent.1, by unfold Handed; decide +kernel, disabling_consistent.2, by unfold Handed; decide +kernel, by decide +kernel⟩

theorem witness_SnapshotsAreWrittenToHostMemory :
    Handed 7#32 (.ruleRead .staging 255 0x40#64) (executing (.ruleRead .staging 255 0x40#64) none live)
      ∧ Handed 7#32 (.linkStatus 3 0x40#64 true) (executing (.linkStatus 3 0x40#64 true) none live)
      ∧ Handed 7#32 (.cyclicRead 31 0x40#64 true) (executing (.cyclicRead 31 0x40#64 true) none live)
      ∧ (∀ a ∈ [CommandAccess.ruleImageWrite [] 5#64, .linkStatusWrite [], .cyclicStatusWrite []],
        Accessing 7#32 .ruleCopy a (executing .ruleCopy (some a) live) ∧ Accessing 7#32 .ruleCopy a (inHost .detaching (executing .ruleCopy (some a) live)))
      ∧ live.host.state ≠ .detaching
      ∧ answers (exec (.ruleReadWriteEnd .done) (executing .ruleCopy (some (.ruleImageWrite [] 5#64)) live)) (fun t =>
        t.status.completions = [.commandDone .ok 0x32 7#32 5#64 0#64 0#32]) = true
      ∧ answers (exec (.linkStatus 3 0x40#64 true) (executing (.linkStatus 3 0x40#64 true) none (live.modLink 3 fun k =>
        { k with counters := { k.counters with rxIntact := 9#32 } }))) (fun t => (t.link 3).counters.rxIntact = 0#32
          && (hostWrites t).any (fun w => w.address = 0x40#64 && (w.bytes.drop 20).take 4 = [9#8, 0#8, 0#8, 0#8])) = true
      ∧ (let k := { online with score := 255, probation := some 63, config := { online.config with forwardLifetime := 16777215, bitTime := 4000 } }
         k.score ≤ 255 ∧ k.probation.all (· < 64) = true ∧ k.config.wellFormed = true ∧ field (linkStatusBlock k) 16 4 = 16777215
          ∧ field (linkStatusBlock k) 5 3 = 0xFA03F)
      ∧ (let e := { ScheduleEntry.reset with period := 65535, phase := 65534, budget := 15, counters := ⟨1, 2, 3, 4, 5, 6, 65535⟩ }
         e.period ≤ 65535 ∧ e.phase ≤ 65535 ∧ e.budget ≤ 15 ∧ (some 64).all (· ≤ 64) = true
          ∧ [1, 2, 3, 4, 5, 6, 65535].all (· ≤ 65535) = true ∧ field (cyclicStatusBlock e (some 64)) 9 2 = 0x400F
          ∧ field (cyclicStatusBlock e none) 32 2 = 65535) := by
  unfold Handed Accessing; decide +kernel

/-- The first 20 bytes of the link status block of `online` (section 12.6): ONLINE, no target, score 0, GOOD; bit time 100; all notices; three
forward retries. -/
theorem test_linkStatusBlock : (linkStatusBlock online).take 20 =
    [2#8, 0xFF#8, 0#8, 0#8, 0#8, 0#8, 100#8, 0#8, 0#8, 0#8, 7#8, 0#8, 3#8, 0#8, 0#8, 0#8, 0#8, 0#8, 0#8, 0#8]
    ∧ (linkStatusBlock online).length = 64 ∧ (cyclicStatusBlock ScheduleEntry.reset none).length = 48 := by decide +kernel

/-- L2 in this mode under this command, with bit_time 100. -/
def commanded (c : Command) (m : Mode) : State := executing c none (linkIn m)

theorem witness_LinkCommandsFollowMode :
    (∀ m ∈ [Mode.offline, .joining .online, .joining .listen, .online, .listen, .suspended, .isolated],
      (∀ r ∈ [RequestedMode.online, .listen, .suspended], Handed 7#32 (.linkMode 2 r) (commanded (.linkMode 2 r) m) ∧ r ≠ .offline)
        ∧ Handed 7#32 (.linkConfig 2 LinkConfig.reset) (commanded (.linkConfig 2 LinkConfig.reset) m)
        ∧ Handed 7#32 (.linkRecover 2) (commanded (.linkRecover 2) m) ∧ Handed 7#32 (.linkForce 2) (commanded (.linkForce 2) m)
        ∧ ((commanded .ruleCopy m).link 2).mode = m ∧ LinkSound ((commanded .ruleCopy m).link 2))
      ∧ answers (exec (.linkMode 2 .listen) (commanded (.linkMode 2 .listen) .offline)) (fun t => (t.link 2).mode = .joining .listen
        && t.status.completions = [.commandDone .ok 0x11 7#32 0x030100#64 0#64 0#32]) = true
      ∧ answers (exec (.linkMode 2 .online) (commanded (.linkMode 2 .online) .isolated)) (fun t => (t.link 2).mode = .isolated
        && t.status.completions = [.commandDone .wrongState 0x11 7#32 0xFF0505#64 0#64 0#32]) = true
      ∧ answers (exec (.linkForce 2) (executing (.linkForce 2) none (receiving .isolated (some 9) 160))) (fun t => (t.link 2).mode = .online
        && (t.link 2).score = 0 && t.posted.map (·.body) = [.linkHealth 2 .muted .good 0]) = true
      ∧ answers (exec (.linkRecover 2) (executing (.linkRecover 2) none ((receiving .isolated none 160).modLink 2 fun k =>
        { k with config := { k.config with recoveryPolicy := .manual } }))) (fun t => (t.link 2).probation = some 0) = true := by
  unfold Handed; simp only [linkSound_iff]; decide +kernel

/-- The attempt in flight is cut and its entry ended LINK_DOWN ahead of the pending one (R21, R111). -/
theorem witness_LinkModeOfflineTearsDownTheLink :
    (let s := executing (.linkMode 2 .offline) none ((scored 98 true).modSet 2 fun x => { x with pending := [forwardEntry 60 0x200#16 7#48] })
     LinkSound (s.link 2) ∧ Handed 7#32 (.linkMode 2 .offline) s ∧ (s.link 2).mode ≠ .offline
      ∧ answers (exec (.linkMode 2 .offline) s) (fun t => (t.link 2).mode = .offline && (t.link 2).score = 0 && (t.set 2).pending = []
        && (t.set 2).inFlight = none && t.posted.map (·.body) = [.linkHealth 2 .muted .good 0] && (t.link 2).counters.forwardDropDown = 1#32
        && t.status.completions = [.sendDone 2 0x51#32 .linkDown 0 0#32, .commandDone .ok 0x11 7#32 0xFF0002#64 0#64 0#32]) = true)
      ∧ (let s := commanded (.linkMode 2 .offline) .offline
         LinkSound (s.link 2) ∧ Handed 7#32 (.linkMode 2 .offline) s ∧ (s.link 2).mode = .offline) := by
  unfold Handed; simp only [linkSound_iff]; decide +kernel

/-! ## Invariants and command records -/

/-- `busy` with the end of the send record read waiting. -/
def due : State := { busy with pending := [.sendRecordTaken 0 sendRecord] }

/-- The step of `due` answers a next state. -/
theorem due_steps : ∃ t, step due = .next t := by
  obtain ⟨t, h, -⟩ := (answers_iff (step due) fun t => (t.fetcher 0).stage = .index).mp (by decide +kernel)
  exact ⟨t, h⟩

theorem witness_LinksStaySound : LinksSound due ∧ ∃ t, step due = .next t :=
  ⟨by simp only [LinksSound, linkSound_iff, OfflineAtRest]; decide +kernel, due_steps⟩

/-- The queues of `due` lie within their ranges. -/
theorem due_queues : QueuesSound due := by unfold QueuesSound QueueSound; decide +kernel

theorem witness_TablesStaySound : TablesSound due ∧ ∃ t, step due = .next t := by
  refine ⟨⟨?_, ?_, ?_, due_queues⟩, due_steps⟩
  · unfold TwinSound TwinEntry.sameFrame; decide +kernel
  · unfold MailboxSound; decide +kernel
  · rw [schedulesSound_iff]; unfold ScheduleSound; decide +kernel

/-- The bookkeeping of `due`. -/
theorem due_consistent : Consistent due := consistent_of_check (by decide +kernel)

theorem witness_CapacitiesAndOrderHold : Consistent due ∧ WithinCapacity due ∧ EgressSetsSound due ∧ ∃ t, step due = .next t :=
  ⟨due_consistent, by unfold WithinCapacity; decide +kernel, by unfold EgressSetsSound EgressSound; decide +kernel, due_steps⟩

theorem witness_BookkeepingStaysConsistent : Consistent due ∧ ∃ t, step due = .next t := ⟨due_consistent, due_steps⟩

theorem witness_ReferencesStayCounted : StoreSound due ∧ ∃ t, step due = .next t :=
  ⟨⟨referencesCounted_of_lists (hs := [10, 11, 12]) (by decide +kernel) (by decide +kernel), due_consistent⟩, due_steps⟩

theorem witness_CreditsStaySound : Consistent due ∧ QueuesSound due ∧ CreditSound due ∧ ∃ t, step due = .next t :=
  ⟨due_consistent, due_queues, by unfold CreditSound; decide +kernel, due_steps⟩

/-- Commands at the ends of their ranges, a window of 32 bits among them; their records read back. -/
theorem witness_CommandRecordsReadBack :
    ∀ c ∈ [Command.twinGroup 3 0#4 4294967295, .twinGroup 0 15#4 1000000,
        .cyclicSet 31 { cyclicArgs with period := 65535, phase := 65534, budget := 15, length := 64, address := 0xFFFFFFFFFFFFFFFF#64 },
        .ruleWrite 255 rule, .linkConfig 3 { LinkConfig.reset with bitTime := 4000, unmatchedQueue := some 7, forwardLifetime := 16777215 },
        .storeReserve 128, .mailboxRead 127 0x8000000000000000#64],
      c.wellFormed = true ∧ (encodeCommand 0xFFFFFFFF#32 c).length = 64 ∧ decodeCommand (encodeCommand 0xFFFFFFFF#32 c) = .ok c
        ∧ decodeCommand ((encodeCommand 7#32 c).set 63 1#8) = .error .badArgument
        ∧ decodeCommand ((encodeCommand 7#32 c).set 17 0x80#8) = .error .badArgument
        ∧ decodeCommand ((encodeCommand 7#32 c).set 0 0x66#8) = .error .unknownCommand := by decide +kernel

/-- Section 12.5: the argument bytes of LINK_CONFIG, TWIN_GROUP and CYCLIC_SET, and the image of `rule`, written out. -/
theorem test_commandRecord_offsets :
    (encodeCommand 0x04030201#32 (.linkConfig 3 ⟨0x0FA0, .manual, .flush, ⟨true, false, true⟩, some 7, 15, 0x00030201⟩)).take 33
        = [0x10#8, 0#8, 0#8, 0#8, 1#8, 2#8, 3#8, 4#8, 0#8, 0#8, 0#8, 0#8, 0#8, 0#8, 0#8, 0#8, 3#8, 0#8,
          0xA0#8, 0x0F#8, 2#8, 1#8, 5#8, 8#8, 15#8, 0#8, 0#8, 0#8, 1#8, 2#8, 3#8, 0#8, 0#8]
      ∧ ((encodeCommand 7#32 (.twinGroup 2 0b1100#4 0x00040302)).drop 16).take 9 = [2#8, 0#8, 12#8, 0#8, 2#8, 3#8, 4#8, 0#8, 0#8]
      ∧ ((encodeCommand 7#32 (.cyclicSet 31 cyclicArgs)).drop 8).take 21
        = [0#8, 0x10#8, 0#8, 0#8, 0#8, 0#8, 0#8, 0#8, 31#8, 0#8, 1#8, 1#8, 0x40#8, 0x02#8, 20#8, 0#8, 5#8, 0#8, 1#8, 4#8, 0#8]
      ∧ ruleImage rule = [3#8, 2#8, 0#8, 5#8, 0#8, 0xFF#8, 0#8, 64#8, 4#8, 1#8, 13#8, 0#8, 0x50#8, 1#8, 7#8, 0#8, 0x11#8, 0#8]
          ++ List.replicate 14 0#8 := by decide +kernel

end Sys2Proof.Tests
end

/-! PROOFS. RULE_COUNT and RULE_COPY (R70, R71): the record of RULE_COUNT read back, the change of the staging bank by which
bank is active, and O34. -/

namespace Sys2Proof.Machine

/-! ## Numbers in little-endian bytes (R166) -/

/-- Bytes written least significant first read back as the number, as far as they hold it. -/
theorem leNat_leBytes (n v : Nat) : leNat (leBytes n v) = v % 256 ^ n := by
  induction n generalizing v with
  | zero => simp [leBytes, leNat, Nat.mod_one]
  | succ n ih =>
    have hbyte : (BitVec.ofNat 8 v).toNat = v % 256 := by simp
    rw [leBytes, leNat, ih, hbyte, Nat.pow_succ', Nat.mod_mul]

@[simp] theorem length_leBytes (n v : Nat) : (leBytes n v).length = n := by
  induction n generalizing v with
  | zero => rfl
  | succ n ih => rw [leBytes, List.length_cons, ih]

/-! ## Bytes of a record -/

/-- A byte of two parts of a record is a byte of the one it falls in. -/
theorem byteAt_append (a b : List Byte) (i : Nat) :
    byteAt (a ++ b) i = if i < a.length then byteAt a i else byteAt b (i - a.length) := by
  unfold byteAt
  split
  next h => exact List.getD_append _ _ _ _ h
  next h => exact List.getD_append_right _ _ _ _ (Nat.le_of_not_lt h)

/-- Zeros, and what lies past their end, read as 0. -/
theorem byteAt_replicate_zero (n i : Nat) : byteAt (List.replicate n 0#8) i = 0#8 := by
  unfold byteAt
  rw [List.getD_eq_getElem?_getD, List.getElem?_replicate]
  split <;> rfl

/-! ## The record of RULE_COUNT (section 12.5) -/

/-- Byte 0 holds the code of RULE_COUNT. -/
theorem field_code_ruleCount (tag : BitVec 32) (n : Nat) : field (encodeCommand tag (.ruleCount n)) 0 1 = 0x31 := rfl

/-- Bytes 16-17 hold the count. -/
theorem field_object_ruleCount (tag : BitVec 32) {n : Nat} (h : n < 2 ^ 16) :
    field (encodeCommand tag (.ruleCount n)) 16 2 = n := by
  have hbytes : field (encodeCommand tag (.ruleCount n)) 16 2 = leNat (leBytes 2 n) := rfl
  rw [hbytes, leNat_leBytes]
  exact Nat.mod_eq_of_lt h

/-- The record of RULE_COUNT, part by part: code, three zeros, tag, no host address, count, no arguments. -/
theorem encodeCommand_ruleCount (tag : BitVec 32) (n : Nat) : encodeCommand tag (.ruleCount n) =
    leBytes 1 0x31 ++ List.replicate 3 0#8 ++ leBytes 4 tag.toNat ++ List.replicate 8 0#8 ++ leBytes 2 n
      ++ List.replicate 46 0#8 := by
  have haddress : leBytes 8 0 = List.replicate 8 0#8 := rfl
  have harguments : padTo 46 [] = List.replicate 46 0#8 := rfl
  simp only [encodeCommand, commandBody, commandCode, haddress, harguments]

/-- Every byte but the code, the tag and the count is 0, whatever tag and count are (R168). -/
theorem byteAt_ruleCount_reserved (tag : BitVec 32) (n : Nat) {i : Nat}
    (hcode : i ≠ 0) (htag : ¬(4 ≤ i ∧ i < 8)) (hcount : ¬(16 ≤ i ∧ i < 18)) :
    byteAt (encodeCommand tag (.ruleCount n)) i = 0#8 := by
  simp only [encodeCommand_ruleCount, byteAt_append, byteAt_replicate_zero, List.length_append, List.length_replicate,
    length_leBytes]
  split_ifs
  · exact absurd ‹i < 1› (by omega)
  · rfl
  · exact absurd (show 4 ≤ i ∧ i < 8 by omega) htag
  · rfl
  · exact absurd (show 16 ≤ i ∧ i < 18 by omega) hcount
  · rfl

/-- The reserved bytes of a RULE_COUNT record pass check 2 of R145. -/
theorem reservedZero_ruleCount (tag : BitVec 32) (n : Nat) :
    commandReservedZero 0x31 [(16, 2)] (encodeCommand tag (.ruleCount n)) = true := by
  simp only [commandReservedZero, zeroOutside, Bool.and_true, List.all_eq_true, List.mem_range]
  intro i _
  by_cases named : i = 0 ∨ (4 ≤ i ∧ i < 8) ∨ (16 ≤ i ∧ i < 18)
  · have hrange : (List.any [(0, 1), (4, 4), (16, 2)] fun r => r.1 ≤ i && i < r.1 + r.2) = true := by simp; omega
    rw [hrange, Bool.true_or]
  · rw [byteAt_ruleCount_reserved tag n (by omega) (by omega) (by omega)]
    simp

/-- The record of RULE_COUNT passes every check of R145 but the range of the count. -/
theorem decodeCommand_ruleCount (tag : BitVec 32) {n : Nat} (h : n < 2 ^ 16) :
    decodeCommand (encodeCommand tag (.ruleCount n)) = if 256 < n then .error .badArgument else .ok (.ruleCount n) := by
  have hargs : commandArguments 0x31 (encodeCommand tag (.ruleCount n)) = some (.ruleCount n) := by
    simp only [commandArguments, field_object_ruleCount tag h]
  simp only [decodeCommand, field_code_ruleCount, commandLayout, reservedZero_ruleCount, hargs, Command.wellFormed, if_true]
  by_cases hn : 256 < n
  · simp [hn]
  · simp [hn, Nat.le_of_not_lt hn]

/-! ## The banks by the active letter (R51) -/

/-- While bank A is active, bank B is the staging bank. -/
theorem Routing.stagingBank_of_active_a {r : Routing} (h : r.active = .a) : r.stagingBank = r.bankB := by
  simp only [Routing.stagingBank, h, BankId.other, Routing.bank]

/-- While bank B is active, bank A is the staging bank. -/
theorem Routing.stagingBank_of_active_b {r : Routing} (h : r.active = .b) : r.stagingBank = r.bankA := by
  simp only [Routing.stagingBank, h, BankId.other, Routing.bank]

theorem Routing.activeBank_of_active_a {r : Routing} (h : r.active = .a) : r.activeBank = r.bankA := by
  simp only [Routing.activeBank, h, Routing.bank]

theorem Routing.activeBank_of_active_b {r : Routing} (h : r.active = .b) : r.activeBank = r.bankB := by
  simp only [Routing.activeBank, h, Routing.bank]

/-- While bank A is active, a change of the staging bank changes bank B alone. -/
theorem modStaging_of_active_a {s : State} (h : s.routing.active = .a) (f : Bank → Bank) :
    modStaging f s = { s with routing := { s.routing with bankB := f s.routing.bankB } } := by
  simp only [modStaging, Routing.stagingBank_of_active_a h, h, BankId.other, Routing.setBank]

/-- While bank B is active, a change of the staging bank changes bank A alone. -/
theorem modStaging_of_active_b {s : State} (h : s.routing.active = .b) (f : Bank → Bank) :
    modStaging f s = { s with routing := { s.routing with bankA := f s.routing.bankA } } := by
  simp only [modStaging, Routing.stagingBank_of_active_b h, h, BankId.other, Routing.setBank]

/-! ## The commands taken from the command unit -/

/-- A change of the staging bank leaves the command unit holding its command. -/
theorem Handed.modStaging {tag : BitVec 32} {c : Command} {s : State} (h : Handed tag c s) (f : Bank → Bank) :
    Handed tag c (modStaging f s) := h

/-- RULE_COUNT completes with the staging count held before, the staging count set (R70). -/
theorem exec_ruleCount_handed {tag : BitVec 32} {n : Nat} {s : State} (h : Handed tag (.ruleCount n) s) :
    exec (.ruleCount n) s = .next (commandDone tag (.ruleCount n) .ok (BitVec.ofNat 64 s.routing.stagingBank.count) 0#64
      (modStaging (fun b => { b with count := n }) s)) := by
  have harm : exec (.ruleCount n) s = execRuleCount n s := rfl
  rw [harm, execRuleCount, takeCommand_handed h, complete_eq_commandDone (h.modStaging _), packWord_one]

/-- RULE_COPY completes with the active count, the active bank copied whole (R71). -/
theorem exec_ruleCopy_handed {tag : BitVec 32} {s : State} (h : Handed tag .ruleCopy s) :
    exec .ruleCopy s = .next (commandDone tag .ruleCopy .ok (BitVec.ofNat 64 s.routing.activeBank.count) 0#64
      (modStaging (fun _ => s.routing.activeBank) s)) := by
  have harm : exec .ruleCopy s = execRuleCopy s := rfl
  rw [harm, execRuleCopy, takeCommand_handed h, complete_eq_commandDone (h.modStaging _), packWord_one]

/-- Settles O34: the record's checks for the refusal, then each command by which bank is active. -/
theorem ruleCountAndRuleCopyEditStaging : Obligations.RuleCountAndRuleCopyEditStaging := by
  unfold Obligations.RuleCountAndRuleCopyEditStaging
  refine ⟨fun tag n hn => decodeCommand_ruleCount tag hn, fun s tag n h => ?_, fun s tag h => ?_⟩
  · rw [exec_ruleCount_handed h]
    cases ha : s.routing.active with
    | a => rw [Routing.stagingBank_of_active_a ha, modStaging_of_active_a ha]
    | b => rw [Routing.stagingBank_of_active_b ha, modStaging_of_active_b ha]
  · rw [exec_ruleCopy_handed h]
    cases ha : s.routing.active with
    | a => rw [Routing.activeBank_of_active_a ha, modStaging_of_active_a ha]
    | b => rw [Routing.activeBank_of_active_b ha, modStaging_of_active_b ha]

end Sys2Proof.Machine

/-! PROOFS. The twin check (R63, R77-R79, R81): the look-up in a sound table, what the check answers and leaves in each case, and
O35. -/

namespace Sys2Proof.Machine

/-! ## Counters (R81) -/

theorem saturatingSucc_eq_min (limit n : Nat) : saturatingSucc limit n = min (n + 1) limit := by
  unfold saturatingSucc
  split <;> omega

theorem countPassed_eq (g : GroupId) (s : State) :
    countPassed g s = s.modGroup g fun y => { y with passed := min (y.passed + 1) 65535 } := by
  simp only [countPassed, saturatingSucc_eq_min, Config.counterLimit]

theorem countSuppressed_eq (g : GroupId) (s : State) :
    countSuppressed g s = s.modGroup g fun y => { y with suppressed := min (y.suppressed + 1) 65535 } := by
  simp only [countSuppressed, saturatingSucc_eq_min, Config.counterLimit]

theorem countEvicted_eq (g : GroupId) (s : State) :
    countEvicted g s = s.modGroup g fun y => { y with evicted := min (y.evicted + 1) 65535 } := by
  simp only [countEvicted, saturatingSucc_eq_min, Config.counterLimit]

/-! ## The look-up (R76) -/

/-- The look-up finds entries of the wanted group, key and sequence, whatever link and expiry they hold. -/
theorem TwinEntry.isFor_iff {t : TwinEntry} {g : GroupId} {key : Key} {seq : Seq} :
    t.isFor g key seq = true ↔ t.group = g ∧ t.key = key ∧ t.seq = seq := by
  simp only [TwinEntry.isFor, Bool.and_eq_true, decide_eq_true_eq, and_assoc]

/-- No entry ahead of one of a sound table is for the same frame: this is what makes the look-up and the removal exact. -/
theorem TwinSound.not_sameFrame_before {s : State} (h : TwinSound s) {before after : List TwinEntry} {e : TwinEntry}
    (htable : s.twin.table = before ++ e :: after) : ∀ a ∈ before, ¬a.sameFrame e := by
  obtain ⟨-, distinct, -⟩ := h
  rw [htable, List.pairwise_append] at distinct
  obtain ⟨-, -, across⟩ := distinct
  exact fun a ha => across a ha e List.mem_cons_self

/-- The look-up in a sound table answers the entry of the frame. -/
theorem TwinSound.lookup_eq_some {s : State} (h : TwinSound s) {before after : List TwinEntry} {e : TwinEntry}
    (htable : s.twin.table = before ++ e :: after) : s.twin.lookup e.group e.key e.seq = some e := by
  refine List.find?_eq_some_iff_append.mpr ⟨TwinEntry.isFor_iff.mpr ⟨rfl, rfl, rfl⟩, before, after, htable, fun a ha => ?_⟩
  rw [Bool.not_eq_true', Bool.eq_false_iff, ne_eq, TwinEntry.isFor_iff]
  exact h.not_sameFrame_before htable a ha

/-- The removal of an entry of a sound table leaves the others in their order. -/
theorem TwinSound.erase_table {s : State} (h : TwinSound s) {before after : List TwinEntry} {e : TwinEntry}
    (htable : s.twin.table = before ++ e :: after) : s.twin.table.erase e = before ++ after := by
  have hnot : e ∉ before := fun he => h.not_sameFrame_before htable e he ⟨rfl, rfl, rfl⟩
  rw [htable, List.erase_append_right _ hnot, List.erase_cons_head]

theorem Twin.lookup_eq_none {t : Twin} {g : GroupId} {key : Key} {seq : Seq}
    (h : ∀ e ∈ t.table, ¬(e.group = g ∧ e.key = key ∧ e.seq = seq)) : t.lookup g key seq = none :=
  List.find?_eq_none.mpr fun e he => TwinEntry.isFor_iff.not.mpr (h e he)

/-! ## The eviction (R79) -/

theorem evictIfFull_of_room {s : State} (h : s.twin.table.length < 64) : evictIfFull s = s := by
  unfold evictIfFull
  split
  next => rfl
  next oldest rest htable => exact if_neg (Nat.not_le.mpr (htable ▸ h))

theorem evictIfFull_of_full {s : State} {oldest : TwinEntry} {rest : List TwinEntry} (htable : s.twin.table = oldest :: rest)
    (h : s.twin.table.length = 64) : evictIfFull s = countEvicted oldest.group (modTable (fun _ => rest) s) := by
  rw [htable] at h
  simp only [evictIfFull, htable, h, Config.twinCapacity, Nat.le_refl, if_true]

/-! ## What the check answers and leaves -/

/-- The entry a passed frame leaves at the newest end, inserted or refreshed alike (R78, R79). -/
def newestTwin (g : GroupId) (f : Frame) (s : State) : TwinEntry :=
  { group := g, key := f.key, seq := f.seq, first := f.ingress, expiry := f.arrival + BitVec.ofNat 32 (s.group g).window }

theorem insertTwin_eq (g : GroupId) (f : Frame) (s : State) :
    insertTwin g f s = countPassed g (modTable (fun xs => xs ++ [newestTwin g f s]) (evictIfFull s)) := rfl

/-- A refreshed entry is the one an insertion would make. -/
theorem refreshTwin_eq {g : GroupId} {f : Frame} {e : TwinEntry} (s : State) (hgroup : e.group = g) (hkey : e.key = f.key)
    (hseq : e.seq = f.seq) (hfirst : e.first = f.ingress) :
    refreshTwin g f e s = countPassed g (modTable (fun xs => xs.erase e ++ [newestTwin g f s]) s) := by
  unfold refreshTwin newestTwin
  rw [← hgroup, ← hkey, ← hseq, ← hfirst]
  rfl

section
variable {g : GroupId} {f : Frame} {s : State}

theorem checkTwin_of_outside (hlink : (s.group g).links.getLsbD f.ingress.val = false) : checkTwin g f s = (.pass, s) := by
  rw [checkTwin, hlink, if_neg Bool.false_ne_true]

theorem checkTwin_of_new (hlink : (s.group g).links.getLsbD f.ingress.val = true)
    (hnew : ∀ e ∈ s.twin.table, ¬(e.group = g ∧ e.key = f.key ∧ e.seq = f.seq)) :
    checkTwin g f s = (.pass, insertTwin g f s) := by
  rw [checkTwin, if_pos hlink, Twin.lookup_eq_none hnew]

/-- A frame with an entry is a repeat or a twin by the link its entry was made on. -/
theorem checkTwin_of_entry (hlink : (s.group g).links.getLsbD f.ingress.val = true) (hs : TwinSound s)
    {before after : List TwinEntry} {e : TwinEntry} (htable : s.twin.table = before ++ e :: after)
    (hgroup : e.group = g) (hkey : e.key = f.key) (hseq : e.seq = f.seq) :
    checkTwin g f s = if e.first = f.ingress then (.pass, refreshTwin g f e s) else (.twin, suppressTwin g e s) := by
  have hlookup : s.twin.lookup g f.key f.seq = some e := by
    rw [← hgroup, ← hkey, ← hseq]
    exact hs.lookup_eq_some htable
  rw [checkTwin, if_pos hlink, hlookup]

end

/-- TWIN_CHECK acts on the answer of the check of the classification's frame under its group (R63, R77). -/
theorem exec_twinCheck_eq {s : State} {c : Classification} {g : GroupId} (hc : s.routing.classification = some c)
    (hstage : c.stage = .twinWait) (hgroup : c.twinGroup = some g) {answer : TwinAnswer} {t : State}
    (hcheck : checkTwin g (s.slot c.entry).frame s = (answer, t)) : exec .twinCheck s = .next (answerTwin c answer t) := by
  have harm : exec .twinCheck s = execTwinCheck s := rfl
  rw [harm, execTwinCheck, hc]
  simp only [hstage, hgroup, hcheck]

/-- Settles O35: one case for a link outside the group, and inside it by whether the frame has an entry, the link of that entry, and
the room in the table. -/
theorem twinChecksPassOrSuppress : Obligations.TwinChecksPassOrSuppress := by
  unfold Obligations.TwinChecksPassOrSuppress
  intro s c g hc hstage hgroup hs f x made one table passed wholly nowhere passes suppresses
  have hexec {answer : TwinAnswer} {t : State} := exec_twinCheck_eq hc hstage hgroup (answer := answer) (t := t)
  refine ⟨fun hlink => hexec (checkTwin_of_outside hlink), fun hlink => ⟨?entry, fun hnew => ⟨?room, ?full⟩⟩⟩
  case entry =>
    intro before e after htable hgroup' hkey hseq
    have hcheck := checkTwin_of_entry hlink hs htable hgroup' hkey hseq
    refine ⟨fun htwin => ?_, fun hrepeat => ?_⟩
    · rw [if_neg htwin, suppressTwin, countSuppressed_eq, modTable, hs.erase_table htable] at hcheck
      exact hexec hcheck
    · rw [if_pos hrepeat, refreshTwin_eq s hgroup' hkey hseq hrepeat, countPassed_eq, modTable, hs.erase_table htable] at hcheck
      exact hexec hcheck
  case room =>
    intro hroom
    have hcheck := checkTwin_of_new hlink hnew
    rw [insertTwin_eq, evictIfFull_of_room hroom, countPassed_eq] at hcheck
    exact hexec hcheck
  case full =>
    intro oldest rest htable hfull
    have hcheck := checkTwin_of_new hlink hnew
    rw [insertTwin_eq, evictIfFull_of_full htable hfull, countPassed_eq, countEvicted_eq] at hcheck
    exact hexec hcheck

end Sys2Proof.Machine
